-- ==== Sys2Proof/Word.lean ====
section
/-! DEFINITION. The byte, the uptime word, and `Tab`: a fixed number of like things, indexed by `Fin`. -/

namespace Sys2Proof

/-- A byte of a frame (R186). -/
abbrev Byte := BitVec 8

/-- A recorded uptime: milliseconds since the last part reset, wrapping at 2^32 (00_scope, Time). -/
abbrev Uptime := BitVec 32

/-- `n` like things, numbered from 0: the records of a kind, the flags of a set. -/
structure Tab (α : Type) (n : Nat) where
  list : List α
  size : list.length = n
deriving DecidableEq, Repr

variable {α β : Type} {n : Nat}

/-- The table whose entry at `i` is `f i`. -/
def Tab.ofFn (f : Fin n → α) : Tab α n := ⟨List.ofFn f, List.length_ofFn⟩

/-- Every entry is `a`. -/
def Tab.const (n : Nat) (a : α) : Tab α n := ⟨List.replicate n a, List.length_replicate⟩

/-- The entry at `i`. -/
def Tab.get (t : Tab α n) (i : Fin n) : α := t.list[i.val]'(by rw [t.size]; exact i.isLt)

/-- `t` with `a` at `i`. -/
def Tab.set (t : Tab α n) (i : Fin n) (a : α) : Tab α n :=
  ⟨t.list.set i.val a, by rw [List.length_set, t.size]⟩

/-- `t` with `f` applied to the entry at `i`. -/
def Tab.modify (t : Tab α n) (i : Fin n) (f : α → α) : Tab α n := t.set i (f (t.get i))

/-- `f` applied to every entry. -/
def Tab.map (t : Tab α n) (f : α → β) : Tab β n := ⟨t.list.map f, by rw [List.length_map, t.size]⟩

/-- Every index of an `n`-entry table, ascending: the spec's "by number". -/
def allFin (n : Nat) : List (Fin n) := List.finRange n

@[simp] theorem Tab.get_ofFn (f : Fin n → α) (i : Fin n) : (Tab.ofFn f).get i = f i := by
  simp [Tab.get, Tab.ofFn]

@[simp] theorem Tab.get_const (a : α) (i : Fin n) : (Tab.const n a).get i = a := by
  simp [Tab.get, Tab.const]

@[simp] theorem Tab.get_set_same (t : Tab α n) (i : Fin n) (a : α) : (t.set i a).get i = a := by
  simp [Tab.get, Tab.set]

theorem Tab.get_set_ne (t : Tab α n) {i j : Fin n} (a : α) (h : i ≠ j) :
    (t.set i a).get j = t.get j := by
  have : i.val ≠ j.val := fun e => h (Fin.ext e)
  simp [Tab.get, Tab.set, this]

theorem Tab.get_set (t : Tab α n) (i j : Fin n) (a : α) :
    (t.set i a).get j = if i = j then a else t.get j := by
  by_cases h : i = j
  · subst h; simp
  · simp [h, Tab.get_set_ne t a h]

@[simp] theorem Tab.get_modify_same (t : Tab α n) (i : Fin n) (f : α → α) :
    (t.modify i f).get i = f (t.get i) := by simp [Tab.modify]

theorem Tab.get_modify (t : Tab α n) (i j : Fin n) (f : α → α) :
    (t.modify i f).get j = if i = j then f (t.get j) else t.get j := by
  by_cases h : i = j
  · subst h; simp
  · simp [Tab.modify, h, Tab.get_set_ne _ _ h]

@[simp] theorem Tab.get_map (t : Tab α n) (f : α → β) (i : Fin n) : (t.map f).get i = f (t.get i) := by
  simp [Tab.get, Tab.map]

theorem Tab.ext_get {s t : Tab α n} (h : ∀ i, s.get i = t.get i) : s = t := by
  obtain ⟨l, hl⟩ := s
  obtain ⟨m, hm⟩ := t
  have : l = m := by
    apply List.ext_getElem (by rw [hl, hm])
    intro i h1 h2
    exact h ⟨i, hl ▸ h1⟩
  subst this
  rfl

/-- A set of things of one kind: one flag each (R25, R36). -/
abbrev Flags (n : Nat) := Tab Bool n

/-- No member. -/
def Tab.none? (t : Flags n) : Bool := t.list.all (!·)

/-- The members, ascending. -/
def Tab.members (t : Flags n) : List (Fin n) := (allFin n).filter t.get

end Sys2Proof
end

