-- ==== Sys2Proof/Syntax.lean ====
section
/-! DEFINITION. The commands: one constructor of `Instr` per row of spec/opcode_table.json. -/

namespace Sys2Proof

/-- A signal group G1-G16, numbered from 0. -/
abbrev Group := Fin 16
/-- A lamp circuit C1-C48, numbered from 0. -/
abbrev Circuit := Fin 48
/-- A stage S1-S12, numbered from 0. -/
abbrev Stage := Fin 12
/-- An entry 1-12 of a plan's sequence, numbered from 0. -/
abbrev Entry := Fin 12
/-- A detector D1-D24, numbered from 0. -/
abbrev Detector := Fin 24
/-- A plan slot P1-P4, numbered from 0. -/
abbrev Slot := Fin 4
/-- A schedule entry E1-E16, numbered from 0. -/
abbrev SchedIx := Fin 16

/-- One character of the receive line (R185): a byte with its stop bit at mark, or one whose stop bit was
found at space and whose line returned to mark within two character times. -/
inductive RxChar where
  | byte (b : Byte)
  | framingError
deriving DecidableEq, Repr

/-- An auxiliary contact that OSW reads (R87). -/
inductive Contact where
  | relay (c : Circuit)
  | contactor
deriving DecidableEq, Repr

/-- The commands. A request row carries the tag and the body bytes of the request that the handler takes
(R192, R199); an event row carries what the event names. -/
inductive Instr where
  | partReset (rate1 rate0 : Bool)
  | junctionOpen (tag : Byte) (body : List Byte)
  | junctionWrite (tag : Byte) (body : List Byte)
  | junctionAccept (tag : Byte) (body : List Byte)
  | junctionRead (tag : Byte) (body : List Byte)
  | planOpen (tag : Byte) (body : List Byte)
  | planWriteHeader (tag : Byte) (body : List Byte)
  | planWriteSequence (tag : Byte) (body : List Byte)
  | planWriteEntryTiming (tag : Byte) (body : List Byte)
  | planClose (tag : Byte) (body : List Byte)
  | planRead (tag : Byte) (body : List Byte)
  | planSelect (tag : Byte) (body : List Byte)
  | scheduleWrite (tag : Byte) (body : List Byte)
  | scheduleRead (tag : Byte) (body : List Byte)
  | clockSet (tag : Byte) (body : List Byte)
  | clockRead (tag : Byte) (body : List Byte)
  | restart (tag : Byte) (body : List Byte)
  | resume (tag : Byte) (body : List Byte)
  | goAllRed (tag : Byte) (body : List Byte)
  | goDark (tag : Byte) (body : List Byte)
  | hold (tag : Byte) (body : List Byte)
  | releaseHold (tag : Byte) (body : List Byte)
  | advance (tag : Byte) (body : List Byte)
  | demandInsert (tag : Byte) (body : List Byte)
  | statusRead (tag : Byte) (body : List Byte)
  | circuitRead (tag : Byte) (body : List Byte)
  | lampLearn (tag : Byte) (body : List Byte)
  | cableTestNow (tag : Byte) (body : List Byte)
  | cableSuspend (tag : Byte) (body : List Byte)
  | cableResume (tag : Byte) (body : List Byte)
  | detectorRead (tag : Byte) (body : List Byte)
  | faultListRead (tag : Byte) (body : List Byte)
  | faultClear (tag : Byte) (body : List Byte)
  | faultClearAll (tag : Byte) (body : List Byte)
  | measureSetOn (tag : Byte) (body : List Byte)
  | measureSetOff (tag : Byte) (body : List Byte)
  | measureRead (tag : Byte) (body : List Byte)
  | reportControl (tag : Byte) (body : List Byte)
  | linkStatusRead (tag : Byte) (body : List Byte)
  | linkStatusReadAndZero (tag : Byte) (body : List Byte)
  | unknownRequest (kind tag : Byte) (body : List Byte)
  | frameReceived (chars : List RxChar)
  | gapTimeout
  | breakRecognised
  | linkReset
  | lineReadyChange (asserted : Bool)
  | frameSent
  | clockSecond
  | minimumGreenExpiry
  | gapExpiry
  | maximumGreenReached
  | fixedDurationReached
  | floorWaitReached
  | commitLeadExpiry
  | timetableEntryDue
  | redProofTimeout
  | interstageEnd
  | startUpAllRedExpiry
  | detectorInputChange (d : Detector) (closed : Bool)
  | detectorActivation (d : Detector)
  | detectorRelease (d : Detector)
  | detectorStuckOn (d : Detector)
  | detectorSilent (d : Detector)
  | chatterIntervalEnd
  | relayFeedbackChange (input : Contact) (closed : Bool)
  | relayFeedbackAccepted (c : Circuit)
  | relayTransitionTimeout (c : Circuit)
  | contactorFeedbackAccepted
  | contactorTransitionTimeout
  | deadTimeElapsed (c : Circuit)
  | signalsOffInputChange (asserted : Bool)
  | signalsOffAsserted
  | signalsOffReleased
  | diagnosticDue
  | conversionComplete (input : Int)
  | lampSettleTimeElapsed (c : Circuit)
  | offCheckEligibilityTime (c : Circuit)
  | cableEligibilityTime (c : Circuit)
  | cablePeriodElapsed (c : Circuit)
  | injectorLoadSettle
  | injectorTestSettle
  | injectorClear
  | injectorStuck
  | testOverdue (c : Circuit)
  | noise (b : Byte)
deriving DecidableEq, Repr

end Sys2Proof
end

