-- ==== Sys2Proof/Decode.lean ====
section
/-! DEFINITION. The commands that a word of the opcode table spells: the table gives none of its rows any bits. -/

namespace Sys2Proof

/-- The command a word spells by the table's bits. Every row of spec/opcode_table.json has an empty list of fields, so
no word spells a command: the commands are events of the part and requests taken from its queue, with their operands
written out in `Instr`. -/
def decodeTableWord (_nbits _w : Nat) : Option Instr := none

end Sys2Proof
end

