-- ==== Sys2Proof/Config.lean ====
section
/-! DEFINITION. The free values: constants without a body for what the spec leaves unstated. Nothing in Lean can
evaluate one, so every statement holds whatever they are. Those that stand for an unstated byte take the uptime of the
moment they are used, so that two uses need not agree. -/

namespace Sys2Proof

/-- Free value: how a flag byte other than 0 and 1 is read in a field whose owning rule lists its refusals and
does not list that byte (always-call flag R59, used R70, reporting enable R195). Log 18. -/
opaque Config.flagByte : Byte → Bool

/-- Free value: the detail byte of FAULT-RAISED for a RED-OUT raise that no entry into OUT comes with
(R141, R207). Log 20. -/
opaque Config.detailWithoutCause : Uptime → Byte

/-- Free value: the four bytes that follow the presence byte of an uptime that is none (R200). Log 22. -/
opaque Config.noUptime : Uptime → BitVec 32

/-- Free value: the two bytes that follow the presence byte of an evaluated switch count that is none (R205).
Log 22. -/
opaque Config.noCount : Uptime → BitVec 16

/-- Free value: the detail item of the BAD-FIELD that answers a FAULT-CLEAR of an entry that does not exist (R182,
R199). Log 40. -/
opaque Config.noEntryItem : Uptime → Byte

end Sys2Proof
end

