-- ==== Sys2Proof/Machine/State.lean ====
section
/-! DEFINITION. The state of the part, block by block, and the state after part reset. -/

namespace Sys2Proof.Machine

/-! ### Recorded uptimes and timers -/

/-- A recorded uptime with the elapsed count of R1, milliseconds, which stops at 4,294,967,295. -/
structure Stamp where
  recorded : Uptime
  elapsed : Nat
deriving DecidableEq, Repr

/-- A running timer: milliseconds counted, and the limit in milliseconds read when it started. -/
structure Timer where
  ms : Nat
  limit : Nat
deriving DecidableEq, Repr

/-! ### JDS: the junction description (01_the_junction_description) -/

/-- R2. -/
inductive DescState where | empty | editing | accepted
deriving DecidableEq, Repr
/-- R6. -/
inductive GroupKind where | unused | vehicle | pedestrian
deriving DecidableEq, Repr
/-- R7. -/
inductive Technology where | filament | led
deriving DecidableEq, Repr
/-- R7. -/
inductive LoopCheck where | on | off | byTechnology
deriving DecidableEq, Repr
/-- R10. -/
inductive DetKind where | unused | presence | push
deriving DecidableEq, Repr
/-- R12. -/
inductive Response where | report | allRed | dark
deriving DecidableEq, Repr
/-- One lamp colour of a group; the aspect of a circuit (R3). -/
inductive Aspect where | red | amber | green
deriving DecidableEq, Repr
/-- The colour a RESPONSE record names (R12). -/
inductive Colour where | red | amber | green | any
deriving DecidableEq, Repr

/-- R6, with the empty values as defaults. Times in 0.1 s. -/
structure GroupRec where
  kind : GroupKind := .unused
  amber : Nat := 30
  redAmber : Nat := 20
  clearance : Nat := 0
  floor : Nat := 40
  redFloor : Nat := 1
deriving DecidableEq, Repr

/-- R7, with the empty values as defaults. -/
structure CircuitRec where
  fitted : Bool := false
  technology : Technology := .filament
  lamps : Nat := 1
  reference : Nat := 0
  loopCheck : LoopCheck := .byTechnology
  baseline : Nat := 0
  leakLimit : Nat := 500
  testPeriod : Nat := 10
deriving DecidableEq, Repr

/-- R10, with the empty values as defaults. -/
structure DetRec where
  kind : DetKind := .unused
  debounce : Nat := 30
  demand : Flags 12 := Tab.const 12 false
  extend : Flags 12 := Tab.const 12 false
  stuckLimit : Nat := 5
  silentLimit : Nat := 60
deriving DecidableEq, Repr

/-- R11, with the empty values as defaults. -/
structure TimingRec where
  mains : Nat := 50
  nominal : Nat := 2300
  startUpAllRed : Nat := 60
  commitLead : Nat := 3
  redProofLimit : Nat := 20
  pullIn : Nat := 60
  dropOut : Nat := 60
  deadTime : Nat := 30
  foreignOpen : Nat := 500
  foreignLoaded : Nat := 200
deriving DecidableEq, Repr

/-- The Junction Description Store: R2, R6 to R12. `response i` is row i+1 of the table of R12. -/
structure Jds where
  desc : DescState := .empty
  group : Tab GroupRec 16 := Tab.const 16 {}
  circuit : Tab CircuitRec 48 := Tab.const 48 {}
  conflict : Tab (Flags 16) 16 := Tab.const 16 (Tab.const 16 false)
  intergreen : Tab (Tab Nat 16) 16 := Tab.const 16 (Tab.const 16 0)
  stage : Tab (Flags 16) 12 := Tab.const 12 (Tab.const 16 false)
  detector : Tab DetRec 24 := Tab.const 24 {}
  timing : TimingRec := {}
  response : Tab Response 14 :=
    ⟨[.dark, .dark, .allRed, .allRed, .report, .report, .allRed, .report, .report, .report, .report, .report,
      .report, .report], rfl⟩
deriving DecidableEq, Repr

/-! ### SEQ: running stages (02_stage_sequencing) -/

inductive SeqState where | idle | startAllRed | stage | commit | interstage | allRedHeld
deriving DecidableEq, Repr
inductive Substate where | minimum | running | resting
deriving DecidableEq, Repr
/-- The commanded state of a group (R24), also OSW's stored command (R97). -/
inductive GState where | off | red | redAmber | green | amber
deriving DecidableEq, Repr
/-- R22: a stage with its entry number, the empty target, or none. -/
inductive Target where | none | stage (k : Stage) (e : Entry) | empty
deriving DecidableEq, Repr
inductive EntryStatus where | pending | held | issued
deriving DecidableEq, Repr

/-- One timetable entry (R41). `proofLimit` is the red-proof limit read at the entry's offset, once HELD (R44). -/
structure TtEntry where
  offset : Nat
  group : Group
  state : GState
  status : EntryStatus := .pending
  proofLimit : Nat := 0
deriving DecidableEq, Repr

/-- R22. Stage timers are milliseconds; their 0.1 s counts are the milliseconds div 100. -/
structure Seq where
  state : SeqState := .idle
  substate : Option Substate := none
  current : Option Stage := none
  position : Option Entry := none
  target : Target := .none
  pendingAdvance : Option Stage := none
  elapsed : Option Nat := none
  gap : Option Nat := none
  maximum : Option Nat := none
  lead : Option Timer := none
  allRed : Option Timer := none
  start : Option Stamp := none
  timetable : List TtEntry := []
  switchOn : Flags 48 := Tab.const 48 false
  leg : Tab (Option Stamp) 16 := Tab.const 16 none
  commanded : Tab GState 16 := Tab.const 16 .off
  demand : Flags 12 := Tab.const 12 false
  /-- The stage that was last current, named by STAGE-CHANGE (R54). -/
  lastStage : Option Stage := none
  /-- The stage that the last expired commit lead ended (R54, entry into ALL-RED-HELD). -/
  ended : Option Stage := none
deriving DecidableEq, Repr

/-! ### SEQ: plans, schedule and clock (03_timing_plans_and_the_schedule) -/

inductive SlotState where | empty | editing | valid | invalid
deriving DecidableEq, Repr
inductive PlanMode where | fixedTime | demand
deriving DecidableEq, Repr

/-- One entry of a plan, with its cleared values (R55). -/
structure PlanEntry where
  stage : Stage := 0
  minGreen : Nat := 40
  maxGreen : Nat := 40
  gap : Nat := 5
  fixed : Nat := 40
  always : Bool := false
deriving DecidableEq, Repr

/-- The first failing check of PLAN-CLOSE with its subject (R60): an entry, and a group for check 6. -/
structure CloseError where
  check : Nat
  entry : Option Entry
  group : Option Group
deriving DecidableEq, Repr

/-- A plan slot with its cleared values (R55). -/
structure PlanSlot where
  state : SlotState := .empty
  error : Option CloseError := none
  id : Nat := 0
  mode : PlanMode := .demand
  length : Nat := 0
  entries : Tab PlanEntry 12 := Tab.const 12 {}
deriving DecidableEq, Repr

/-- A schedule entry with its reset values (R70). Day 1 is index 0. -/
structure SchedEntry where
  used : Bool := false
  days : Flags 7 := Tab.const 7 false
  hours : Nat := 0
  minutes : Nat := 0
  slot : Slot := 0
deriving DecidableEq, Repr

/-- The set clock (R69). Day 1 is index 0. -/
structure Tod where
  day : Fin 7
  hours : Nat
  minutes : Nat
  seconds : Nat
deriving DecidableEq, Repr

/-- The plan library, the slot references, the schedule and the clock: R55, R63, R69, R70, R72. -/
structure Plans where
  slot : Tab PlanSlot 4 := Tab.const 4 {}
  inForce : Option Slot := none
  pendingPlan : Option Slot := none
  override : Option Slot := none
  schedule : Tab SchedEntry 16 := Tab.const 16 {}
  lastChoice : Option (SchedIx × Slot) := none
  clock : Option Tod := none
  clockMs : Nat := 0
deriving DecidableEq, Repr

/-! ### DET (04_detector_inputs) -/

/-- The captured stage (R73): absent before the first activation, or what SEQ showed, a stage or none. -/
inductive Captured where | absent | noStage | stage (k : Stage)
deriving DecidableEq, Repr

/-- R84, derived from the three conditions. -/
inductive DetFault where | none | stuckOn | silent | chatter
deriving DecidableEq, Repr

/-- A detector record (R73) and the level of its contact input. -/
structure Det1 where
  active : Bool := false
  timer : Option Timer := none
  assertSeen : Bool := false
  releaseSeen : Bool := false
  captured : Captured := .absent
  capturedTime : Option Nat := none
  activeSince : Option Stamp := none
  stuckOn : Bool := false
  silentSince : Option Stamp := none
  silent : Bool := false
  activations : Nat := 0
  quiet : Nat := 0
  chatter : Bool := false
  contact : Bool := false
deriving DecidableEq, Repr

structure Det where
  record : Tab Det1 24 := Tab.const 24 {}
  intervalMs : Nat := 0
deriving DecidableEq, Repr

/-! ### OSW (05_output_switching_and_relay_proving) -/

inductive RelayState where | open | closing | closed | opening | failedClosed | failedOpen
deriving DecidableEq, Repr
inductive Phase where | outputsOff | redsFirst | live | contactorRelease
deriving DecidableEq, Repr

/-- What a relay and the contactor have in common: coil, proven state, feedback with its debounce (R86 to R89, R92).
`feedback` and `raw` are true for a closed contact. -/
structure Coil where
  commanded : Bool := false
  state : RelayState := .open
  feedback : Bool := false
  lastChange : Option Stamp := none
  timer : Option Timer := none
  raw : Bool := false
  debounce : Option Nat := none
deriving DecidableEq, Repr

/-- The relay section of a circuit record (R86). -/
structure Relay where
  coil : Coil := {}
  switchCount : BitVec 16 := 0
  entering : Bool := false
  releaseAsked : Bool := false
deriving DecidableEq, Repr

structure Osw where
  relay : Tab Relay 48 := Tab.const 48 {}
  contactor : Coil := {}
  phase : Phase := .outputsOff
  stored : Tab GState 16 := Tab.const 16 .off
  conflict : Flags 16 := Tab.const 16 false
  /-- SIGNALS-OFF: accepted state, raw level, debounce count (R104). -/
  signalsOff : Bool := false
  signalsOffRaw : Bool := false
  signalsOffDebounce : Option Nat := none
  /-- The model's own (R102, third pair; log 47): the entering circuit whose injector has been released while a command
  of the same moment that may make it not wanted is waiting. It is judged once the moment's commands are taken. -/
  freed : Option Circuit := none
deriving DecidableEq, Repr

/-! ### MEA (06_the_measurement_engine) -/

/-- R109. -/
inductive Channel where
  | current (c : Circuit) | voltage (c : Circuit) | loop (c : Circuit) | leak (c : Circuit)
  | offset | ref | supply
deriving DecidableEq, Repr

/-- A request (R111): the channel with its circuit, the switch count carried, and for LMP-ROUTINE whether LMP asked
for an off-check (R127). -/
structure Req where
  channel : Channel
  count : BitVec 16 := 0
  offCheck : Bool := false
deriving DecidableEq, Repr

/-- A result (R113): the request it answers, with its channel, circuit and switch count; the count, 0 to 4095; the
uptime at which the window ended, rounded down to the millisecond (R110). No rule has a unit read the last. -/
structure Result where
  req : Req
  count : Nat
  ended : Uptime
deriving DecidableEq, Repr

inductive SlotContent where | empty | waiting (r : Req) | converting (r : Req)
deriving DecidableEq, Repr
inductive MSlot where | proof | routine | cbl | diag
deriving DecidableEq, Repr
inductive SupplyState where | absent | low | normal
deriving DecidableEq, Repr

/-- The conversion in flight (R108, R110); microseconds. -/
structure Conv where
  slot : MSlot
  start : Uptime
  window : Nat
  elapsed : Nat
deriving DecidableEq, Repr

structure Mea where
  proof : SlotContent := .empty
  routine : SlotContent := .empty
  cbl : SlotContent := .empty
  diag : SlotContent := .empty
  conv : Option Conv := none
  /-- The alternation memory: true when CBL was granted last. -/
  lastCbl : Bool := true
  dueSupply : Bool := true
  dueRef : Bool := true
  dueOffset : Bool := true
  lastOffset : Option Nat := none
  measured : Nat := 0
  bypass : Option Nat := none
  offBad : Nat := 0
  offGood : Nat := 0
  offCond : Bool := false
  /-- A CONVERTING OFFSET whose reading the bypass has made void (R117). -/
  offVoid : Bool := false
  lastRef : Option Nat := none
  refBad : Nat := 0
  refGood : Nat := 0
  refCond : Bool := false
  s : Nat := 0
  supply : SupplyState := .absent
  supAbsent : Nat := 0
  supNormal : Nat := 0
  lossCond : Bool := false
  /-- Milliseconds since the last 200 ms boundary taken, and which boundary of its second comes next (R115). The
  boundary of the part reset itself is taken: it set the three due flags (log 8). -/
  diagMs : Nat := 0
  diagPhase : Fin 5 := 1
deriving DecidableEq, Repr

/-! ### LMP (07_lamp_proving) -/

inductive LampState where | learning | unproven | proven | degraded | out
deriving DecidableEq, Repr
inductive Cause where | lamp | cable | unknown
deriving DecidableEq, Repr

/-- The lamp section of a circuit record (R124). -/
structure Lamp where
  state : LampState := .unproven
  p : Nat := 0
  avg : Option Nat := none
  e : Option Nat := none
  k : Nat := 0
  downRun : Nat := 0
  upRun : Nat := 0
  learn : Nat := 0
  evalCount : Option (BitVec 16) := none
  proof : Bool := false
  redOut : Bool := false
  degraded : Bool := false
  out : Bool := false
  overcurrent : Bool := false
  overRun : Nat := 0
  onWhenOff : Bool := false
  highRun : Nat := 0
  lowRun : Nat := 0
  cause : Option Cause := none
  retest : Option Nat := none
  offRetest : Option Nat := none
deriving DecidableEq, Repr

structure Lmp where
  lamp : Tab Lamp 48 := Tab.const 48 {}
  routinePtr : Option Circuit := none
  offPtr : Option Circuit := none
  evals : Nat := 0
deriving DecidableEq, Repr

/-! ### CBL (08_cable_fault_monitoring) -/

/-- R147, derived. -/
inductive CableState where | untested | healthy | suspect | faulty | suspended
deriving DecidableEq, Repr

/-- The runs of one cause (R157). -/
structure CauseRun where
  fail : Nat := 0
  pass : Nat := 0
  confirmed : Bool := false
deriving DecidableEq, Repr

/-- The cable section of a circuit record (R146). -/
structure Cable where
  suspended : Bool := false
  openV : Option Nat := none
  loadedV : Option Nat := none
  loop : Option Nat := none
  leak : Option Nat := none
  induced : Bool := false
  openRun : CauseRun := {}
  shortRun : CauseRun := {}
  insulationRun : CauseRun := {}
  foreignRun : CauseRun := {}
  lastTest : Option Stamp := none
  dueFrom : Stamp := ⟨0, 0⟩
  abandons : Nat := 0
  retestDue : Bool := false
  overdue : Bool := false
  baseline : Nat := 0
deriving DecidableEq, Repr

inductive InjMode where | load | test
deriving DecidableEq, Repr

/-- The injector's position (R148). `afterTest`: the release follows a completed test (R149). -/
inductive InjPos where
  | free
  | on (c : Circuit) (m : InjMode)
  | releasing (c : Circuit) (m : InjMode) (afterTest : Bool)
deriving DecidableEq, Repr

/-- Where a test stands (R152, R153): the three measured steps, with the two settle waits and LOOP and LEAK told apart. -/
inductive TestStep where | openV | loadSettle | loadedV | testSettle | loop | leak
deriving DecidableEq, Repr

/-- The test in flight (R152). `placed`: the step's request has been placed and its result is awaited. -/
structure Test where
  circuit : Circuit
  step : TestStep := .openV
  placed : Bool := false
  vo : Nat := 0
  vl : Option Nat := none
  loop : Option Nat := none
  settle : Option Timer := none
deriving DecidableEq, Repr

structure Cbl where
  cable : Tab Cable 48 := Tab.const 48 {}
  pos : InjPos := .free
  release : Option Timer := none
  stuck : Bool := false
  test : Option Test := none
deriving DecidableEq, Repr

/-! ### FLT (09_faults_and_junction_modes) -/

inductive Mode where | unconfigured | dark | startUp | run | hold | allRed
deriving DecidableEq, Repr

/-- The fault kinds in the order of R174's table, which R200 codes from 1. -/
inductive FaultKind where
  | conflict | relayFailClosed | relayFailOpen | contactorFailClosed | contactorFailOpen | signalsOff
  | redOut | redProofTimeout | lampDegraded | lampOut | lampOvercurrent | onWhenOff
  | cableOpen | cableShort | cableInsulation | foreignVoltage | injectorStuck | measurementFault | supplyLoss
  | detectorStuckOn | detectorSilent | detectorChatter
deriving DecidableEq, Repr

/-- The subject of a fault entry (R177). -/
inductive Subject where | none | group (g : Group) | circuit (c : Circuit) | detector (d : Detector)
deriving DecidableEq, Repr
inductive FState where | active | cleared | pendingRetest
deriving DecidableEq, Repr

/-- An entry of the active fault list (R177). -/
structure FEntry where
  kind : FaultKind
  subject : Subject
  state : FState := .active
  first : Uptime
  last : Uptime
  occurrences : Nat := 1
deriving DecidableEq, Repr

inductive DarkCause where | none | host | acceptance | fault (k : FaultKind)
deriving DecidableEq, Repr

/-- What reaches FLT from the other blocks: raises, clears, retest results (R144), SEQ's notice (R53). -/
inductive FltEvent where
  | raise (k : FaultKind) (s : Subject) (detail : Byte)
  | clear (k : FaultKind) (s : Subject)
  | passed (k : FaultKind) (s : Subject)
  | firstInterstage
deriving DecidableEq, Repr

/-- R166, and the events FLT has not yet taken. -/
structure Flt where
  mode : Mode := .unconfigured
  restartPermitted : Bool := false
  darkCause : DarkCause := .none
  list : List FEntry := []
  overflow : Bool := false
  output : Bool := false
  inbox : List FltEvent := []
deriving DecidableEq, Repr

/-! ### LNK (10_the_serial_link) -/

inductive Rate where | b9600 | b19200 | b57600 | b115200
deriving DecidableEq, Repr
inductive RxState where | waitMarker | length | body | check
deriving DecidableEq, Repr

/-- The receive state (R189). `collected` are the unstuffed bytes after the length; `crc` the running CRC. R189 gives
neither `expected` nor `crc` a value in WAIT-MARKER (DESIGN CHOICE, log 67). -/
structure Rx where
  state : RxState := .waitMarker
  escape : Bool := false
  collected : List Byte := []
  expected : Nat := 0
  crc : BitVec 16 := 0xFFFF
deriving DecidableEq, Repr

/-- R190. -/
structure Counters where
  noise : Nat := 0
  aborted : Nat := 0
  gap : Nat := 0
  format : Nat := 0
  check : Nat := 0
  overrun : Nat := 0
deriving DecidableEq, Repr

/-- A good frame or a reply: kind, tag and body (R186). -/
structure Frame where
  kind : Byte
  tag : Byte
  body : List Byte
deriving DecidableEq, Repr

/-- The report kinds in the order of R207's table. -/
inductive ReportKind where
  | powerUp | mode | stageChange | planChange | planUnavailable | faultRaised | faultCleared | learnDone
  | cableState | testOverdue | detectorState | linkOverrun
deriving DecidableEq, Repr

/-- The subject of a report (R207). -/
inductive RSubject where
  | none | group (g : Group) | circuit (c : Circuit) | detector (d : Detector) | stage (k : Stage)
  | slot (p : Slot) | sched (e : SchedIx)
deriving DecidableEq, Repr

/-- A report (R194). -/
structure Report where
  kind : ReportKind
  alarm : Bool
  uptime : Uptime
  subject : RSubject
  lost : Nat
  fields : List Byte
deriving DecidableEq, Repr

/-- The frame being sent (R193): whether it is a reply, its characters on the wire, microseconds since its start. -/
structure Sending where
  isReply : Bool
  wire : List Byte
  elapsed : Nat
deriving DecidableEq, Repr

structure Lnk where
  rate : Rate := .b9600
  rx : Rx := {}
  idle : Nat := 0
  inBreak : Bool := false
  counters : Counters := {}
  requests : List Frame := []
  /-- The request being handled as a break ended (R196; log 61). -/
  handling : Option Frame := none
  replies : List Frame := []
  reports : List Report := [⟨.powerUp, false, 0, .none, 0, [0]⟩]
  lost : Nat := 0
  reporting : Bool := false
  /-- The kind set, in the order of R195: MODE, STAGE-CHANGE, PLAN-CHANGE, PLAN-UNAVAILABLE, FAULT-CLEARED,
  LEARN-DONE, CABLE-STATE, TEST-OVERDUE, DETECTOR-STATE, LINK-OVERRUN. -/
  kinds : Flags 10 := ⟨[true, false, true, true, true, true, true, true, true, true], rfl⟩
  tx : Option Sending := none
  lineReady : Bool := false
deriving DecidableEq, Repr

/-! ### The whole part -/

/-- The state of the part: one field per block, the uptime, and the queue of waiting commands. -/
structure State where
  uptime : Uptime := 0
  jds : Jds := {}
  seq : Seq := {}
  plans : Plans := {}
  det : Det := {}
  osw : Osw := {}
  mea : Mea := {}
  lmp : Lmp := {}
  cbl : Cbl := {}
  flt : Flt := {}
  lnk : Lnk := {}
  pending : List Instr := []
deriving DecidableEq, Repr

/-- The faults that stop the machine: the spec gives the part none (what it calls faults are entries of FLT's list,
ordinary next states), so the type has no constructor. -/
inductive Fault
deriving DecidableEq, Repr

/-- The refusals. -/
inductive Refusal where
  /-- Raised by an arm of `exec` for a command that has no meaning yet; no arm does. Safe: the model stops where the
  part goes on. -/
  | notModelled (mnemonic : String)
deriving DecidableEq, Repr

/-- The part right after part reset: every block's values of R2, R22, R55, R63, R69, R70, R72, R73, R86, R92, R93,
R97, R104, R108, R124, R146, R148, R166, R197, with the straps read open (9,600 baud) and every input at rest (log 6). -/
def State.reset : State := {}

end Sys2Proof.Machine
end

