-- ==== Sys2Proof/Machine/Ops.lean ====
section
/-! DEFINITION. The shared operations: block updates, recorded uptimes, the circuit numbering, the view of the
description, the mailbox of FLT, and the posting of reports. -/

namespace Sys2Proof.Machine

/-! ### Updates of one block -/

def State.onJds (f : Jds → Jds) (s : State) : State := { s with jds := f s.jds }
def State.onSeq (f : Seq → Seq) (s : State) : State := { s with seq := f s.seq }
def State.onPlans (f : Plans → Plans) (s : State) : State := { s with plans := f s.plans }
def State.onDet (f : Det → Det) (s : State) : State := { s with det := f s.det }
def State.onOsw (f : Osw → Osw) (s : State) : State := { s with osw := f s.osw }
def State.onMea (f : Mea → Mea) (s : State) : State := { s with mea := f s.mea }
def State.onLmp (f : Lmp → Lmp) (s : State) : State := { s with lmp := f s.lmp }
def State.onCbl (f : Cbl → Cbl) (s : State) : State := { s with cbl := f s.cbl }
def State.onFlt (f : Flt → Flt) (s : State) : State := { s with flt := f s.flt }
def State.onLnk (f : Lnk → Lnk) (s : State) : State := { s with lnk := f s.lnk }

/-- `f` applied for each index, ascending, the state handed on. -/
def forEach {n : Nat} (f : Fin n → State → State) (s : State) : State :=
  (allFin n).foldl (fun t i => f i t) s

/-! ### Recorded uptimes and timers (R1) -/

/-- The largest elapsed count (R1). -/
def elapsedMax : Nat := 4294967295

/-- The present uptime, recorded: its elapsed count starts at 0. -/
def State.stamp (s : State) : Stamp := ⟨s.uptime, 0⟩

/-- One millisecond of an elapsed count (R1). -/
def Stamp.tick (t : Stamp) : Stamp := { t with elapsed := min (t.elapsed + 1) elapsedMax }

/-- R1: the time from an uptime to a later uptime. -/
def timeBetween (t u : Uptime) : Nat :=
  if t.toNat ≤ u.toNat then u.toNat - t.toNat else u.toNat + 4294967296 - t.toNat

/-- The time since a recorded uptime has reached `ms`; an uptime never recorded counts as long enough (R99; log 14). -/
def longSince (t : Option Stamp) (ms : Nat) : Bool :=
  match t with
  | none => true
  | some t => ms ≤ t.elapsed

/-- A timer starting from 0 with its limit. -/
def Timer.start (limit : Nat) : Timer := ⟨0, limit⟩
/-- The timer has reached its limit. -/
def Timer.due (t : Timer) : Bool := t.limit ≤ t.ms
/-- A timer that may be stopped is running and has reached its limit. -/
def timerDue (t : Option Timer) : Bool := t.any Timer.due
/-- One millisecond of a running timer. -/
def Timer.tick (t : Timer) : Timer := { t with ms := t.ms + 1 }

/-- The 0.1 s count of a millisecond count, rounded down. -/
def tenths (ms : Nat) : Nat := ms / 100

/-! ### Numbers, circuits and aspects (00_scope, R3) -/

/-- The index of the thing numbered `k` among `n`, if `k` lies in 1 to `n`. -/
def index? (n k : Nat) : Option (Fin n) :=
  if h : 1 ≤ k ∧ k ≤ n then some ⟨k - 1, by omega⟩ else none

/-- R3: the group that owns a circuit. -/
def groupOf (c : Circuit) : Group := ⟨c.val / 3, by omega⟩
/-- R3: the aspect of a circuit. -/
def aspectOf (c : Circuit) : Aspect :=
  if c.val % 3 = 0 then .red else if c.val % 3 = 1 then .amber else .green
/-- The red circuit C(3g-2). -/
def redOf (g : Group) : Circuit := ⟨3 * g.val, by omega⟩
/-- The amber circuit C(3g-1). -/
def amberOf (g : Group) : Circuit := ⟨3 * g.val + 1, by omega⟩
/-- The green circuit C(3g). -/
def greenOf (g : Group) : Circuit := ⟨3 * g.val + 2, by omega⟩
/-- The circuits of a group, in number order. -/
def circuitsOf (g : Group) : List Circuit := [redOf g, amberOf g, greenOf g]

/-! ### The description as the blocks see it (R3) -/

def Jds.accepted (j : Jds) : Bool := j.desc = .accepted
/-- The kind of a group in the view of the blocks. -/
def Jds.kindOf (j : Jds) (g : Group) : GroupKind := if j.accepted then (j.group.get g).kind else .unused
def Jds.used (j : Jds) (g : Group) : Bool := j.kindOf g ≠ .unused
def Jds.fitted (j : Jds) (c : Circuit) : Bool := j.accepted && (j.circuit.get c).fitted
/-- The group set of a stage in the view of the blocks. -/
def Jds.stageSet (j : Jds) (k : Stage) : Flags 16 := if j.accepted then j.stage.get k else Tab.const 16 false
def Jds.defined (j : Jds) (k : Stage) : Bool := !(j.stageSet k).none?
def Jds.detKind (j : Jds) (d : Detector) : DetKind := if j.accepted then (j.detector.get d).kind else .unused
/-- R74: DET serves the detector. -/
def Jds.served (j : Jds) (d : Detector) : Bool := j.detKind d ≠ .unused
/-- The stored conflict row of `g` names `n` (R8). -/
def Jds.conflicts (j : Jds) (g n : Group) : Bool := (j.conflict.get g).get n
/-- IG(l, n) (R8). -/
def Jds.ig (j : Jds) (l n : Group) : Nat := (j.intergreen.get l).get n
/-- The groups that conflict with `n`: those its row names. After acceptance check 1 the rows agree (R15). -/
def Jds.conflictingWith (j : Jds) (n : Group) : List Group := (allFin 16).filter fun g => j.conflicts n g

/-! ### What reaches FLT -/

/-- A block hands an event to FLT; FLT takes its events one at a time (R168; log 11). -/
def toFlt (e : FltEvent) (s : State) : State := s.onFlt fun f => { f with inbox := f.inbox ++ [e] }

/-- The detail byte of every kind but RED-OUT and LAMP-OUT (R207). -/
def noDetail : Byte := 0xFF

def raise (k : FaultKind) (j : Subject) (s : State) : State := toFlt (.raise k j noDetail) s
def clear (k : FaultKind) (j : Subject) (s : State) : State := toFlt (.clear k j) s
/-- A condition that was `was` and is `now`: the raise or the clear that the change makes. -/
def onChange (was now : Bool) (k : FaultKind) (j : Subject) (s : State) : State :=
  if now && !was then raise k j s else if was && !now then clear k j s else s

/-! ### Bytes (R200) -/

def b8 (n : Nat) : Byte := BitVec.ofNat 8 n
/-- Two bytes, high byte first. -/
def be16 (n : Nat) : List Byte := [b8 (n / 256), b8 n]
/-- Four bytes, high byte first. -/
def be32 (n : Nat) : List Byte := [b8 (n / 16777216), b8 (n / 65536), b8 (n / 256), b8 n]
/-- 1 for yes, 0 otherwise. -/
def flagByte (b : Bool) : Byte := if b then 1 else 0
/-- A numbered thing: its number. -/
def number {n : Nat} (i : Fin n) : Byte := b8 (i.val + 1)
/-- A numbered thing or none. -/
def number? {n : Nat} (i : Option (Fin n)) : Byte := (i.map number).getD 0
/-- An uptime that may be none: presence byte, then four bytes (unstated for none; log 22). -/
def uptime? (s : State) (t : Option Stamp) : List Byte :=
  match t with
  | none => 0 :: be32 (Config.noUptime s.uptime).toNat
  | some t => 1 :: be32 t.recorded.toNat
/-- Flags in one value, the first in the lowest bit. -/
def packBits (l : List Bool) : Nat := l.foldr (fun b n => 2 * n + (if b then 1 else 0)) 0
/-- Flags named together: one byte. -/
def packByte (l : List Bool) : Byte := b8 (packBits l)

def FaultKind.code : FaultKind → Nat
  | .conflict => 1 | .relayFailClosed => 2 | .relayFailOpen => 3 | .contactorFailClosed => 4
  | .contactorFailOpen => 5 | .signalsOff => 6 | .redOut => 7 | .redProofTimeout => 8 | .lampDegraded => 9
  | .lampOut => 10 | .lampOvercurrent => 11 | .onWhenOff => 12 | .cableOpen => 13 | .cableShort => 14
  | .cableInsulation => 15 | .foreignVoltage => 16 | .injectorStuck => 17 | .measurementFault => 18
  | .supplyLoss => 19 | .detectorStuckOn => 20 | .detectorSilent => 21 | .detectorChatter => 22

def Mode.code : Mode → Nat
  | .unconfigured => 0 | .dark => 1 | .startUp => 2 | .run => 3 | .hold => 4 | .allRed => 5

def Cause.code : Cause → Byte
  | .lamp => 0 | .cable => 1 | .unknown => 2

/-! ### Posting a report (R194, R195) -/

/-- The place of a kind in the kind set; none for the kinds the set does not hold. -/
def ReportKind.flag : ReportKind → Option (Fin 10)
  | .powerUp => none | .faultRaised => none | .mode => some 0 | .stageChange => some 1 | .planChange => some 2
  | .planUnavailable => some 3 | .faultCleared => some 4 | .learnDone => some 5 | .cableState => some 6
  | .testOverdue => some 7 | .detectorState => some 8 | .linkOverrun => some 9

/-- The list without its first ROUTINE report, if it holds one. -/
def dropRoutine : List Report → Option (List Report)
  | [] => none
  | r :: l => if r.alarm then (dropRoutine l).map (r :: ·) else some l

/-- The number of reports at the head of the queue that are being sent: 0 or 1. -/
def Lnk.sendingReport (l : Lnk) : Nat := if l.tx.any (!·.isReply) then 1 else 0

def satInc16 (n : Nat) : Nat := min (n + 1) 65535

/-- The queue with the report appended, carrying the lost count, which becomes 0. -/
def Lnk.append (r : Report) (l : Lnk) : Lnk :=
  { l with reports := l.reports ++ [{ r with lost := l.lost }], lost := 0 }

/-- R194: the admission of a posting to the report queue. POWER-UP is a ROUTINE entry like another and may be removed,
although R197 has it stay queued until it is sent (DESIGN CHOICE between the two, log 69). -/
def Lnk.enqueue (r : Report) (l : Lnk) : Lnk :=
  if l.reports.length < 32 then l.append r
  else if r.alarm then
    match dropRoutine (l.reports.drop l.sendingReport) with
    | some rest =>
      { l with reports := l.reports.take l.sendingReport ++ rest, lost := satInc16 l.lost }.append r
    | none => { l with lost := satInc16 l.lost }
  else { l with lost := satInc16 l.lost }

/-- R194, R195: a ROUTINE report whose kind is not enabled is not posted. -/
def Lnk.wants (k : ReportKind) (alarm : Bool) (l : Lnk) : Bool :=
  alarm || (match k.flag with | some i => l.kinds.get i | none => true)

def post (k : ReportKind) (alarm : Bool) (j : RSubject) (fields : List Byte) (s : State) : State :=
  s.onLnk fun l => if l.wants k alarm then l.enqueue ⟨k, alarm, s.uptime, j, 0, fields⟩ else l

/-- The report subject of a fault's subject. -/
def Subject.report : Subject → RSubject
  | .none => .none | .group g => .group g | .circuit c => .circuit c | .detector d => .detector d

end Sys2Proof.Machine
end

