-- ==== Sys2Proof/Machine/Flags.lean ====
section
/-! DEFINITION. The conditions the rules derive from the records: eligibility, evaluability, demand elsewhere, the
gap hold, fault states, responses, the group display. Nothing here changes the state. -/

namespace Sys2Proof.Machine

/-! ### DET and SEQ -/

/-- R84: the first present condition in the order STUCK-ON, CHATTER, SILENT. -/
def Det1.fault (d : Det1) : DetFault :=
  if d.stuckOn then .stuckOn else if d.chatter then .chatter else if d.silent then .silent else .none

/-- A served detector whose fault state is other than NONE (R85). -/
def substituted (s : State) (d : Detector) : Bool :=
  s.jds.served d && (s.det.record.get d).fault ≠ .none

/-- The contents of a plan slot. -/
def planAt (s : State) (p : Slot) : PlanSlot := s.plans.slot.get p
/-- The plan in force. -/
def planInForce (s : State) : Option PlanSlot := s.plans.inForce.map (planAt s)

/-- The entries that belong to a plan, 1 to its length (R55). -/
def PlanSlot.used (p : PlanSlot) : List Entry := (allFin 12).filter fun e => e.val < p.length
/-- Some entry of the plan names the stage. -/
def PlanSlot.names (p : PlanSlot) (k : Stage) : Bool := p.used.any fun e => (p.entries.get e).stage = k
/-- The first entry that names the stage. -/
def PlanSlot.firstNaming (p : PlanSlot) (k : Stage) : Option Entry :=
  p.used.find? fun e => (p.entries.get e).stage = k
/-- Some entry names the stage with its always-call flag set. -/
def PlanSlot.alwaysCalls (p : PlanSlot) (k : Stage) : Bool :=
  p.used.any fun e => (p.entries.get e).stage = k && (p.entries.get e).always

/-- R26: the stage has a held demand. -/
def heldDemand (s : State) (k : Stage) : Bool :=
  ((planInForce s).any fun p => p.alwaysCalls k) ||
  (allFin 24).any fun d => substituted s d && (s.jds.detector.get d).demand.get k

/-- R26: a PRESENCE detector that demands the stage is ACTIVE. -/
def presenceDemands (s : State) (k : Stage) : Bool :=
  (allFin 24).any fun d =>
    s.jds.detKind d = .presence && (s.det.record.get d).active && (s.jds.detector.get d).demand.get k

/-- R29: demand elsewhere. -/
def demandElsewhere (s : State) : Bool :=
  (planInForce s).any fun p =>
    (allFin 12).any fun k => s.seq.demand.get k && p.names k && s.seq.current ≠ some k

/-- R30: some extending detector of the current stage holds the gap timer at 0. -/
def gapHeld (s : State) : Bool :=
  s.seq.current.any fun k =>
    (allFin 24).any fun d =>
      s.jds.served d && (s.jds.detector.get d).extend.get k &&
      ((s.jds.detKind d = .presence && (s.det.record.get d).active) || substituted s d)

/-- The plan entry whose timings the current stage runs by (R28). -/
def runningEntry (s : State) : Option PlanEntry :=
  match planInForce s, s.seq.position with
  | some p, some e => some (p.entries.get e)
  | _, _ => none

/-- A stage timer, in 0.1 s, has reached `n`. -/
def reached (t : Option Nat) (n : Nat) : Bool := t.any fun ms => n ≤ tenths ms

/-- R30: the gap has expired. -/
def gapExpired (s : State) : Bool := (runningEntry s).any fun e => reached s.seq.gap e.gap
/-- R31: the maximum has been reached. -/
def maxReached (s : State) : Bool := (runningEntry s).any fun e => reached s.seq.maximum e.maxGreen
/-- R29: the elapsed timer has reached the entry's minimum green. -/
def minReached (s : State) : Bool := (runningEntry s).any fun e => reached s.seq.elapsed e.minGreen
/-- R33: the elapsed timer has reached the later of the fixed duration and the minimum green. -/
def fixedReached (s : State) : Bool :=
  (runningEntry s).any fun e => reached s.seq.elapsed (max e.fixed e.minGreen)

/-- R49: the largest minimum-green floor among the groups of the stage. -/
def floorWait (s : State) (k : Stage) : Nat :=
  ((s.jds.stageSet k).members.map fun g => (s.jds.group.get g).floor).foldl max 0

/-- R49: the elapsed timer has reached the floor wait of the current stage. -/
def floorReached (s : State) : Bool :=
  s.seq.current.any fun k => reached s.seq.elapsed (floorWait s k)

/-- SEQ has a current stage that postings may not name (R25). -/
def stageShown (s : State) : Bool := s.seq.state = .stage || s.seq.state = .commit

def inDemandPlan (s : State) : Bool := (planInForce s).any fun p => p.mode = .demand

/-! ### Proof and OSW -/

/-- R43: the proof flag of the red circuit of every group that conflicts with `n` is set. -/
def redProven (s : State) (n : Group) : Bool :=
  (s.jds.conflictingWith n).all fun g => (s.lmp.lamp.get (redOf g)).proof

def relayAt (s : State) (c : Circuit) : Relay := s.osw.relay.get c
def relayState (s : State) (c : Circuit) : RelayState := (relayAt s c).coil.state

/-- R97: the aspects a command wants. -/
def GState.wants : GState → Aspect → Bool
  | .off, _ => false
  | .red, a => a = .red
  | .redAmber, a => a = .red || a = .amber
  | .green, a => a = .green
  | .amber, a => a = .amber

/-- R97: the group's stored command wants the circuit; a circuit that is not fitted is left out. -/
def wanted (s : State) (c : Circuit) : Bool :=
  s.jds.fitted c && (s.osw.stored.get (groupOf c)).wants (aspectOf c)

/-- The circuit the injector is published as connected to (R148). -/
def InjPos.circuit : InjPos → Option Circuit
  | .free => none
  | .on c _ => some c
  | .releasing c _ _ => some c

/-- R100: every group that conflicts with the circuit's group has its green relay OPEN. -/
def greenPermitted (s : State) (c : Circuit) : Bool :=
  (s.jds.conflictingWith (groupOf c)).all fun g => relayState s (greenOf g) = .open

/-- R99 condition 2: every other fitted circuit of the group that is not wanted has been OPEN for the dead time. -/
def othersOpen (s : State) (c : Circuit) : Bool :=
  (circuitsOf (groupOf c)).all fun o =>
    o = c || !s.jds.fitted o || wanted s o ||
    (relayState s o = .open && longSince (relayAt s o).coil.lastChange s.jds.timing.deadTime)

/-- R99: the switching conditions of an entering circuit, with the wait of R102's third pair (log 47). -/
def mayEnergise (s : State) (c : Circuit) : Bool :=
  (s.osw.phase = .redsFirst || s.osw.phase = .live) && othersOpen s c &&
  (aspectOf c ≠ .green || greenPermitted s c) && s.cbl.pos.circuit ≠ some c && s.osw.freed ≠ some c

/-- R94: every fitted red relay is CLOSED. -/
def redsClosed (s : State) : Bool :=
  (allFin 16).all fun g => !s.jds.fitted (redOf g) || relayState s (redOf g) = .closed

/-- R103: the green of the group is live. -/
def greenLive (s : State) (g : Group) : Bool := relayState s (greenOf g) ≠ .open

/-- R103: the conflict condition of a used group. -/
def conflictNow (s : State) (g : Group) : Bool :=
  s.jds.used g && s.osw.contactor.state ≠ .open && greenLive s g &&
  (allFin 16).any fun h => g.val < h.val && s.jds.used h && s.jds.conflicts g h && greenLive s h

/-- R105: the display of a group, red, amber and green. -/
def display (s : State) (g : Group) : List Bool :=
  (circuitsOf g).map fun c => s.osw.contactor.state ≠ .open && relayState s c ≠ .open

/-! ### MEA and LMP -/

/-- R108: the offset in use. -/
def offsetInUse (s : State) : Nat := s.mea.bypass.getD s.mea.measured

/-- R125: the settle time of a technology. -/
def settleTime : Technology → Nat
  | .filament => 200
  | .led => 500

/-- R125: a circuit is evaluable. -/
def evaluable (s : State) (c : Circuit) : Bool :=
  s.jds.fitted c && relayState s c = .closed && s.osw.contactor.state = .closed &&
  longSince (relayAt s c).coil.lastChange (settleTime (s.jds.circuit.get c).technology) &&
  s.mea.supply ≠ .absent

/-- R125: a red circuit is awaiting proof. -/
def awaitingProof (s : State) (c : Circuit) : Bool :=
  aspectOf c = .red && evaluable s c && (s.lmp.lamp.get c).evalCount ≠ some (relayAt s c).switchCount

/-- R127: a circuit is routine-eligible. -/
def routineEligible (s : State) (c : Circuit) : Bool := evaluable s c && !awaitingProof s c

/-- R140: a circuit is off-check eligible. -/
def offEligible (s : State) (c : Circuit) : Bool :=
  s.jds.fitted c && relayState s c = .open && longSince (relayAt s c).coil.lastChange 300 &&
  s.osw.contactor.state = .closed && s.cbl.pos.circuit ≠ some c

/-- R127: the next index after the pointer that satisfies `ok`: the lowest above it, or the lowest of all. -/
def nextAfter (ptr : Option Circuit) (ok : Circuit → Bool) : Option Circuit :=
  match (allFin 48).find? fun c => ok c && ptr.all fun p => p.val < c.val with
  | some c => some c
  | none => (allFin 48).find? ok

/-! ### CBL -/

def cableAt (s : State) (c : Circuit) : Cable := s.cbl.cable.get c

/-- Some cause of the section satisfies `f`. -/
def Cable.anyCause (x : Cable) (f : CauseRun → Bool) : Bool :=
  f x.openRun || f x.shortRun || f x.insulationRun || f x.foreignRun

/-- R147: the state of a fitted circuit's section. -/
def Cable.state (x : Cable) : CableState :=
  if x.suspended then .suspended
  else if x.lastTest = none then .untested
  else if x.anyCause (·.confirmed) then .faulty
  else if x.anyCause (·.fail = 1) then .suspect
  else .healthy

/-- R147: the cable state of a circuit; UNTESTED when it is not fitted. -/
def cableState (s : State) (c : Circuit) : CableState :=
  if s.jds.fitted c then (cableAt s c).state else .untested

/-- R7, R153: the effective loop check. -/
def CircuitRec.loopOn (r : CircuitRec) : Bool :=
  match r.loopCheck with
  | .on => true
  | .off => false
  | .byTechnology => r.technology = .filament

/-- A monitoring period in minutes, in milliseconds. -/
def minutes (n : Nat) : Nat := n * 60000

/-- R150: a circuit is eligible for a test. -/
def testEligible (s : State) (c : Circuit) : Bool :=
  s.jds.fitted c && !(cableAt s c).suspended && relayState s c = .open &&
  longSince (relayAt s c).coil.lastChange 500 && !s.seq.switchOn.get c && !(relayAt s c).entering &&
  s.cbl.pos = .free

/-- R151: a circuit is due by period. -/
def dueByPeriod (s : State) (c : Circuit) : Bool :=
  (cableAt s c).lastTest.any fun t => minutes (s.jds.circuit.get c).testPeriod ≤ t.elapsed

/-- R162: the overdue measure has reached twice the period with the flag clear. -/
def overdueNow (s : State) (c : Circuit) : Bool :=
  s.jds.fitted c && !(cableAt s c).suspended && !(cableAt s c).overdue &&
  2 * minutes (s.jds.circuit.get c).testPeriod ≤ (cableAt s c).dueFrom.elapsed

/-- Age of the last completed test: the elapsed count (R1). -/
def testAge (s : State) (c : Circuit) : Nat := ((cableAt s c).lastTest.map (·.elapsed)).getD 0

/-- The circuit with the oldest last test among `l`, the first of equals. -/
def oldest (s : State) : List Circuit → Option Circuit
  | [] => none
  | c :: l =>
    match oldest s l with
    | none => some c
    | some d => if testAge s d ≤ testAge s c then some c else some d

/-- R151: the circuit a test starts on, in the order retest-due, UNTESTED, oldest. -/
def nextTest (s : State) : Option Circuit :=
  let l := (allFin 48).filter (testEligible s)
  match l.find? fun c => (cableAt s c).retestDue with
  | some c => some c
  | none =>
    match l.find? fun c => cableState s c = .untested with
    | some c => some c
    | none => oldest s (l.filter (dueByPeriod s))

/-! ### FLT: responses (R12, R174) -/

/-- The colour of a circuit's aspect. -/
def Aspect.colour : Aspect → Colour
  | .red => .red | .amber => .amber | .green => .green

/-- The row of R12's table for a kind and a colour: the fourteen configurable pairs. -/
def responseRow : FaultKind → Colour → Option (Fin 14)
  | .relayFailClosed, .red => some 0
  | .relayFailClosed, .amber => some 1
  | .relayFailOpen, .amber => some 2
  | .relayFailOpen, .green => some 3
  | .lampDegraded, .any => some 4
  | .lampOut, .any => some 5
  | .lampOvercurrent, .any => some 6
  | .onWhenOff, .red => some 7
  | .onWhenOff, .amber => some 8
  | .cableOpen, .any => some 9
  | .cableShort, .any => some 10
  | .cableInsulation, .any => some 11
  | .foreignVoltage, .red => some 12
  | .foreignVoltage, .amber => some 13
  | _, _ => none

/-- The kinds whose response is listed by colour (R12). -/
def FaultKind.byColour : FaultKind → Bool
  | .relayFailClosed | .relayFailOpen | .onWhenOff | .foreignVoltage => true
  | _ => false

/-- The kinds with some configurable response (R12, R174). -/
def FaultKind.configurable : FaultKind → Bool
  | .relayFailClosed | .relayFailOpen | .onWhenOff | .foreignVoltage | .lampDegraded | .lampOut | .lampOvercurrent
  | .cableOpen | .cableShort | .cableInsulation => true
  | _ => false

/-- The fixed response of a kind, where no row configures it: REPORT for the detector kinds, else DARK (R174). -/
def FaultKind.fixed : FaultKind → Response
  | .detectorStuckOn | .detectorSilent | .detectorChatter => .report
  | _ => .dark

/-- The colour under which a kind's response is looked up for a subject (R174). -/
def lookupColour (k : FaultKind) (j : Subject) : Colour :=
  match k.byColour, j with
  | true, .circuit c => (aspectOf c).colour
  | _, _ => .any

/-- R174: the response of a fault, read afresh from the RESPONSE records. -/
def responseOf (s : State) (k : FaultKind) (j : Subject) : Response :=
  match responseRow k (lookupColour k j) with
  | some i => s.jds.response.get i
  | none => k.fixed

/-- The subject is an amber circuit. -/
def Subject.amber : Subject → Bool
  | .circuit c => aspectOf c = .amber
  | _ => false

/-- R174: the response applied at a raise: DARK for an amber RELAY-FAIL-CLOSED raised in START-UP or REDS-FIRST. -/
def responseAtRaise (s : State) (k : FaultKind) (j : Subject) : Response :=
  if k = .relayFailClosed && j.amber && (s.flt.mode = .startUp || s.osw.phase = .redsFirst) then .dark
  else responseOf s k j

def FEntry.isActive (e : FEntry) : Bool := e.state = .active

/-- R169, R170: an ACTIVE entry with response DARK, an ACTIVE amber RELAY-FAIL-CLOSED, or the overflow. -/
def restartBlocked (s : State) : Bool :=
  s.flt.overflow || s.flt.list.any fun e =>
    e.isActive && (responseOf s e.kind e.subject = .dark || (e.kind = .relayFailClosed && e.subject.amber))

/-- R173: an ACTIVE entry with response ALL-RED or DARK, or the overflow. -/
def resumeBlocked (s : State) : Bool :=
  s.flt.overflow || s.flt.list.any fun e => e.isActive && responseOf s e.kind e.subject ≠ .report

/-- Some plan slot is VALID. -/
def somePlanValid (s : State) : Bool := (allFin 4).any fun p => (planAt s p).state = .valid

/-- R170: the conditions of auto restart. -/
def autoRestartNow (s : State) : Bool :=
  s.flt.mode = .dark && s.flt.restartPermitted &&
  (s.flt.darkCause = .fault .signalsOff || s.flt.darkCause = .fault .supplyLoss) &&
  !restartBlocked s && somePlanValid s

end Sys2Proof.Machine
end

