-- ==== Sys2Proof/Machine/Link.lean ====
section
/-! DEFINITION. Frames on the wire (R186 to R188), the receive state (R189, R190), the transmitter (R193) and the
resets of the link (R196, R197). -/

namespace Sys2Proof.Machine

/-! ### Bytes of a frame -/

def marker : Byte := 0xA7
def escapeByte : Byte := 0xA5

/-- R188: one shift of the CRC register. -/
def crcShift (r : BitVec 16) : BitVec 16 := if r.msb then (r <<< 1) ^^^ 0x1021 else r <<< 1

/-- `n` shifts. -/
def crcShifts : Nat → BitVec 16 → BitVec 16
  | 0, r => r
  | n + 1, r => crcShifts n (crcShift r)

/-- R188: one byte into the CRC. -/
def crcByte (r : BitVec 16) (b : Byte) : BitVec 16 := crcShifts 8 (r ^^^ (b.setWidth 16 <<< 8))

/-- R188: the CRC of the unstuffed bytes. -/
def crc (l : List Byte) : BitVec 16 := l.foldl crcByte 0xFFFF

/-- R187: the characters a byte is sent as. -/
def stuffByte (b : Byte) : List Byte := if b = marker || b = escapeByte then [escapeByte, b ^^^ 0x20] else [b]

def stuff (l : List Byte) : List Byte := l.flatMap stuffByte

/-- R186: the characters of a frame, marker first. -/
def wire (f : Frame) : List Byte :=
  let covered := b8 (f.body.length + 2) :: f.kind :: f.tag :: f.body
  marker :: stuff (covered ++ be16 (crc covered).toNat)

/-! ### Report frames (R207) -/

def ReportKind.code : ReportKind → Byte
  | .powerUp => 0x60 | .mode => 0x61 | .stageChange => 0x62 | .planChange => 0x63 | .planUnavailable => 0x64
  | .faultRaised => 0x65 | .faultCleared => 0x66 | .learnDone => 0x67 | .cableState => 0x68 | .testOverdue => 0x69
  | .detectorState => 0x6A | .linkOverrun => 0x6B

/-- Subject class and number. -/
def RSubject.bytes : RSubject → List Byte
  | .none => [0, 0]
  | .group g => [1, number g]
  | .circuit c => [2, number c]
  | .detector d => [3, number d]
  | .stage k => [4, number k]
  | .slot p => [5, number p]
  | .sched e => [6, number e]

/-- R207: the frame of a report, tag 0. -/
def Report.frame (r : Report) : Frame :=
  ⟨r.kind.code, 0, flagByte r.alarm :: be32 r.uptime.toNat ++ r.subject.bytes ++ be16 r.lost ++ r.fields⟩

/-! ### The transmitter (R193) -/

/-- R185: bits a second. -/
def Rate.baud : Rate → Nat
  | .b9600 => 9600 | .b19200 => 19200 | .b57600 => 57600 | .b115200 => 115200

/-- R200, R206: the rate's code. -/
def Rate.code : Rate → Nat
  | .b9600 => 0 | .b19200 => 1 | .b57600 => 2 | .b115200 => 3

/-- R185: the rate the straps choose. -/
def rateOf (rate1 rate0 : Bool) : Rate :=
  match rate1, rate0 with
  | false, false => .b9600
  | false, true => .b19200
  | true, false => .b57600
  | true, true => .b115200

/-- `us` microseconds hold at least `n` character times of ten bits (R185). -/
def Rate.holds (r : Rate) (us n : Nat) : Bool := n * 10000000 ≤ us * r.baud

/-- R193: an idle transmitter with LINE-READY starts the oldest reply, else the oldest report if reporting is on. -/
def Lnk.start (l : Lnk) : Lnk :=
  if l.tx.isSome || !l.lineReady then l
  else
    match l.replies with
    | f :: _ => { l with tx := some ⟨true, wire f, 0⟩ }
    | [] =>
      match l.reporting, l.reports with
      | true, r :: _ => { l with tx := some ⟨false, wire r.frame, 0⟩ }
      | _, _ => l

/-- The end of every command: the transmitter looks for a frame (R193). -/
def finish (s : State) : State := s.onLnk Lnk.start

/-- R193: the last character of the frame being sent has gone; the reply or report leaves its queue. -/
def Lnk.sent (l : Lnk) : Lnk :=
  match l.tx with
  | none => l
  | some x =>
    if x.isReply then { l with tx := none, replies := l.replies.tail }
    else { l with tx := none, reports := l.reports.tail }

/-! ### The receiver (R189, R190) -/

def Counters.onNoise (c : Counters) : Counters := { c with noise := satInc16 c.noise }
def Counters.onAborted (c : Counters) : Counters := { c with aborted := satInc16 c.aborted }
def Counters.onGap (c : Counters) : Counters := { c with gap := satInc16 c.gap }
def Counters.onFormat (c : Counters) : Counters := { c with format := satInc16 c.format }
def Counters.onCheck (c : Counters) : Counters := { c with check := satInc16 c.check }
def Counters.onOverrun (c : Counters) : Counters := { c with overrun := satInc16 c.overrun }

/-- R191: a good frame is appended, or dropped with OVERRUN and a LINK-OVERRUN report. -/
def offer (f : Frame) (s : State) : State :=
  if s.lnk.requests.length < 4 then s.onLnk fun l => { l with requests := l.requests ++ [f] }
  else
    let t := s.onLnk fun l => { l with counters := l.counters.onOverrun }
    post .linkOverrun false .none (f.kind :: f.tag :: be16 t.lnk.counters.overrun) t

/-- The receive state WAIT-MARKER with nothing collected and no escape pending (R189). The number still expected is 0 and
the running CRC FFFFh, by the model (DESIGN CHOICE, log 67). -/
def Rx.waiting : Rx := {}
/-- The receive state after an unescaped marker: a new frame. -/
def Rx.opened : Rx := { state := .length }

/-- FORMAT counted; WAIT-MARKER (R190). -/
def formatError (s : State) : State :=
  s.onLnk fun l => { l with counters := l.counters.onFormat, rx := Rx.waiting }

/-- R189: a byte of the frame, after unstuffing, in LENGTH, BODY or CHECK. -/
def frameByte (b : Byte) (s : State) : State :=
  let rx := { s.lnk.rx with escape := false }
  match rx.state with
  | .waitMarker => s
  | .length =>
    if 2 ≤ b.toNat && b.toNat ≤ 248 then
      s.onLnk fun l => { l with rx := { rx with state := .body, expected := b.toNat, crc := crcByte 0xFFFF b } }
    else formatError s
  | .body =>
    let rx := { rx with collected := rx.collected ++ [b], expected := rx.expected - 1, crc := crcByte rx.crc b }
    s.onLnk fun l => { l with rx := if rx.expected = 0 then { rx with state := .check, expected := 2 } else rx }
  | .check =>
    let rx := { rx with collected := rx.collected ++ [b], expected := rx.expected - 1 }
    if rx.expected = 0 then
      let t := s.onLnk fun l => { l with rx := Rx.waiting }
      let n := rx.collected.length - 2
      if rx.collected.drop n = be16 rx.crc.toNat then
        match rx.collected.take n with
        | kind :: tag :: body => offer ⟨kind, tag, body⟩ t
        | _ => t
      else t.onLnk fun l => { l with counters := l.counters.onCheck }
    else s.onLnk fun l => { l with rx := rx }

/-- R187, R189: a byte received without a framing error. -/
def rxByte (b : Byte) (s : State) : State :=
  if s.lnk.rx.state = .waitMarker then
    if b = marker then s.onLnk fun l => { l with rx := Rx.opened }
    else s.onLnk fun l => { l with counters := l.counters.onNoise }
  else if b = marker then s.onLnk fun l => { l with counters := l.counters.onAborted, rx := Rx.opened }
  else if s.lnk.rx.escape then
    if b = 0x87 then frameByte marker s
    else if b = 0x85 then frameByte escapeByte s
    else formatError s
  else if b = escapeByte then s.onLnk fun l => { l with rx := { l.rx with escape := true } }
  else frameByte b s

/-- One received character; the idle measure starts again from it (R190). -/
def rxChar (c : RxChar) (s : State) : State :=
  let t := s.onLnk fun l => { l with idle := 0 }
  match c with
  | .byte b => rxByte b t
  | .framingError => formatError t

/-! ### Resets of the link -/

/-- R192: the request the handler takes next: one being handled as a break ended (R196), else the oldest of the queue. -/
def Lnk.front (l : Lnk) : Option Frame := l.handling.or l.requests.head?

/-- R192: the request the handler takes leaves. -/
def Lnk.taken (l : Lnk) : Lnk :=
  if l.handling.isSome then { l with handling := none } else { l with requests := l.requests.tail }

/-- R196: the link reset at the end of a break. With room for its reply (R192) the oldest request is being handled: it is
handled whole, and its reply is the first of the fresh queue (log 61). The transmitter is idle at once, with no wait for
the character in progress (DESIGN CHOICE, log 71). -/
def Lnk.reset (l : Lnk) : Lnk :=
  { l with
    rx := Rx.waiting
    idle := 0
    inBreak := false
    requests := []
    handling := if l.replies.length < 4 then l.front else none
    replies := []
    tx := none
    reporting := false }

end Sys2Proof.Machine
end

