-- ==== Sys2Proof/Machine/Operands.lean ====
section
/-! DEFINITION. The operand forms: reading the fields of a request's body (R200), the answer to a request (R192,
R199), and the request handler. -/

namespace Sys2Proof.Machine

/-! ### Fields of a body -/

/-- The byte at `i` of a body, as a number. -/
def byteAt (l : List Byte) (i : Nat) : Nat := (l.getD i 0).toNat
/-- The two bytes at `i`, high byte first. -/
def wordAt (l : List Byte) (i : Nat) : Nat := 256 * byteAt l i + byteAt l (i + 1)
/-- The set of `n` members in a number, member 1 in the lowest bit. -/
def flagsOf (n w : Nat) : Flags n := Tab.ofFn fun i => w.testBit i.val
/-- The set in two bytes, high byte first (R200). -/
def setAt (n : Nat) (l : List Byte) (i : Nat) : Flags n := flagsOf n (wordAt l i)
/-- No bit of the number lies beyond the `n`th. -/
def within (n w : Nat) : Bool := w < 2 ^ n
/-- A flag byte of a field whose rule lists no refusal for it: 1 is yes, 0 is no, any other byte is unstated
(log 18). -/
def openFlag (b : Nat) : Bool := if b = 1 then true else if b = 0 then false else Config.flagByte (b8 b)

/-- A set as two bytes. -/
def setBytes {n : Nat} (t : Flags n) : List Byte := be16 (packBits t.list)
/-- A set of circuits as six bytes. -/
def circuitSetBytes (t : Flags 48) : List Byte :=
  let n := packBits t.list
  be16 (n / 4294967296) ++ be32 n

/-- A byte that may be absent. -/
def byte? (n : Option Nat) : Byte := (n.map b8).getD 0xFF
/-- Two bytes that may be absent. -/
def word? (n : Option Nat) : List Byte := be16 (n.getD 65535)

/-- `lo ≤ n ≤ hi`. -/
def inRange (n lo hi : Nat) : Bool := lo ≤ n && n ≤ hi

/-- The item of the first field that fails its check (R5, R58). -/
def firstBad : List (Nat × Bool) → Option Nat
  | [] => none
  | (item, ok) :: l => if ok then firstBad l else some item

/-! ### Answers (R192, R199) -/

inductive Reason where
  | unknownRequest | badLength | wrongMode | badField | slotInUse | otherSlotOpen | notOpen | noDescription | noPlan
  | faultActive | stillActive | fixedResponse
deriving DecidableEq, Repr

def Reason.code : Reason → Byte
  | .unknownRequest => 1 | .badLength => 2 | .wrongMode => 3 | .badField => 4 | .slotInUse => 5
  | .otherSlotOpen => 6 | .notOpen => 7 | .noDescription => 8 | .noPlan => 9 | .faultActive => 10
  | .stillActive => 11 | .fixedResponse => 12

/-- The outcome of a request: DONE with the CLAMPED flag and the fields returned, BUSY, or REFUSED with its reason
and the three detail bytes. -/
inductive Answer where
  | done (clamped : Bool) (fields : List Byte)
  | busy
  | refused (r : Reason) (item a b : Byte)
deriving DecidableEq, Repr

def Answer.ok : Answer := .done false []
/-- DONE with return fields. -/
def Answer.gives (fields : List Byte) : Answer := .done false fields
/-- REFUSED with a reason that fills no detail byte. -/
def Answer.no (r : Reason) : Answer := .refused r 0 0 0
/-- BAD-FIELD from a field check: the position of the field. -/
def Answer.badField (item : Nat) : Answer := .refused .badField (b8 item) 0 0

/-- R199: the reply body. -/
def Answer.body : Answer → List Byte
  | .done clamped fields => [0, 0, flagByte clamped, 0, 0, 0] ++ fields
  | .busy => [1, 0, 0, 0, 0, 0]
  | .refused r item a b => [2, r.code, 0, item, a, b]

/-! ### The request kinds (R201 to R206) -/

/-- The request kinds; any other kind is answered UNKNOWN-REQUEST. -/
def isRequestKind (k : Byte) : Bool :=
  inRange k.toNat 0x01 0x04 || inRange k.toNat 0x08 0x10 || inRange k.toNat 0x18 0x20 ||
  inRange k.toNat 0x28 0x2D || inRange k.toNat 0x30 0x35

/-! ### The request handler (R192) -/

/-- The handler may take this request: it is the one to be taken next and the reply queue has room. -/
def takes (s : State) (kind tag : Byte) (body : List Byte) : Bool :=
  s.lnk.front = some ⟨kind, tag, body⟩ && s.lnk.replies.length < 4

/-- The request taken leaves its queue. -/
def takeRequest (s : State) : State := s.onLnk Lnk.taken

/-- The reply is placed at the end of the reply queue. -/
def reply (kind tag : Byte) (a : Answer) (s : State) : State :=
  s.onLnk fun l => { l with replies := l.replies ++ [⟨kind, tag, a.body⟩] }

/-- What a request does: the owning block's answer with the state after its effects. -/
abbrev Judge := State → Answer × State

/-- R192: take the request, judge its length, let the owning block decide, place the reply, and let the transmitter
look for a frame. A request the handler may not take stays where it is, and nothing changes (log 4). -/
def serve (kind tag : Byte) (body : List Byte) (row fits : Bool) (judge : Judge) (s : State) :
    Host.Outcome State Fault Refusal :=
  if takes s kind tag body && row then
    let t := takeRequest s
    let r := if fits then judge t else (Answer.no .badLength, t)
    .next (finish (reply (kind + 0x80) tag r.1 r.2))
  else .next s

/-- A request that changes nothing but the reply queue: its return fields. -/
def reads (fields : State → Answer) : Judge := fun s => (fields s, s)

end Sys2Proof.Machine
end

