-- ==== Sys2Proof/Machine/Engine.lean ====
section
/-! DEFINITION. The Measurement Engine's slots (R110 to R112, R115) and what its users place in them: LMP's proof and
routine requests (R126, R127), CBL's test start, requests, release and abandonment (R148, R151, R152, R160). -/

namespace Sys2Proof.Machine

/-! ### Slots and the grant -/

def Mea.slot (m : Mea) : MSlot → SlotContent
  | .proof => m.proof | .routine => m.routine | .cbl => m.cbl | .diag => m.diag

def Mea.put (m : Mea) (i : MSlot) (x : SlotContent) : Mea :=
  match i with
  | .proof => { m with proof := x }
  | .routine => { m with routine := x }
  | .cbl => { m with cbl := x }
  | .diag => { m with diag := x }

/-- The request a WAITING slot holds. -/
def SlotContent.waiting? : SlotContent → Option Req
  | .waiting r => some r
  | _ => none

def Mea.isWaiting (m : Mea) (i : MSlot) : Bool := (m.slot i).waiting?.isSome

/-- R111: a request is placed in an EMPTY slot. -/
def place (i : MSlot) (r : Req) (s : State) : State :=
  if s.mea.slot i = .empty then s.onMea fun m => m.put i (.waiting r) else s

/-- R111: a WAITING request is withdrawn. -/
def withdraw (i : MSlot) (s : State) : State :=
  if s.mea.isWaiting i then s.onMea fun m => m.put i .empty else s

/-- R112: the slot granted next. -/
def Mea.choice (m : Mea) : Option MSlot :=
  if m.isWaiting .proof then some .proof
  else if m.isWaiting .diag then some .diag
  else
    match m.isWaiting .routine, m.isWaiting .cbl with
    | true, true => some (if m.lastCbl then .routine else .cbl)
    | true, false => some .routine
    | false, true => some .cbl
    | false, false => none

/-- R110: the window in microseconds. -/
def windowOf (mains : Nat) : Nat := if mains = 60 then 8333 else 10000

/-- The uptime `us` microseconds before the present, rounded down to the millisecond (R110; log 10). -/
def uptimeBefore (s : State) (us : Nat) : Uptime := s.uptime - BitVec.ofNat 32 ((us + 999) / 1000)

/-- R112: a free engine grants the slot of the order. `carry` is how long ago, in microseconds, the engine fell free
(log 10). -/
def grant (carry : Nat) (s : State) : State :=
  if s.mea.conv.isSome then s
  else
    match s.mea.choice with
    | none => s
    | some i =>
      match (s.mea.slot i).waiting? with
      | none => s
      | some r =>
        s.onMea fun m =>
          let m := m.put i (.converting r)
          { m with
            conv := some ⟨i, uptimeBefore s carry, windowOf s.jds.timing.mains, carry⟩
            lastCbl := match i with
              | .cbl => true
              | .routine => false
              | _ => m.lastCbl }

/-! ### The requests of each owner -/

/-- The switch count of a circuit, carried by its requests (R111). -/
def countOf (s : State) (c : Circuit) : BitVec 16 := (relayAt s c).switchCount

/-- R115: MEA places the first due flag of SUPPLY, REF, OFFSET. -/
def placeDiag (s : State) : State :=
  if s.mea.diag ≠ .empty then s
  else if s.mea.dueSupply then place .diag ⟨.supply, 0, false⟩ (s.onMea fun m => { m with dueSupply := false })
  else if s.mea.dueRef then place .diag ⟨.ref, 0, false⟩ (s.onMea fun m => { m with dueRef := false })
  else if s.mea.dueOffset then place .diag ⟨.offset, 0, false⟩ (s.onMea fun m => { m with dueOffset := false })
  else s

/-- R126: LMP places the lowest-numbered red circuit awaiting proof; none in DARK (R142). -/
def placeProof (s : State) : State :=
  if s.mea.proof ≠ .empty || s.flt.mode = .dark then s
  else
    match (allFin 48).find? (awaitingProof s) with
    | some c => place .proof ⟨.current c, countOf s c, false⟩ s
    | none => s

/-- An off-check request of the next eligible circuit (R127). -/
def placeOffCheck (c : Circuit) (s : State) : State :=
  place .routine ⟨.current c, countOf s c, true⟩ (s.onLmp fun l => { l with offPtr := some c, evals := 0 })

/-- An evaluation request of the next routine-eligible circuit (R127). -/
def placeEvaluation (c : Circuit) (s : State) : State :=
  place .routine ⟨.current c, countOf s c, false⟩
    (s.onLmp fun l => { l with routinePtr := some c, evals := min (l.evals + 1) 8 })

/-- R127: LMP's choice for its routine slot; none in DARK (R142). -/
def placeRoutine (s : State) : State :=
  if s.mea.routine ≠ .empty || s.flt.mode = .dark then s
  else
    let off := nextAfter s.lmp.offPtr (offEligible s)
    let routine := nextAfter s.lmp.routinePtr (routineEligible s)
    match routine, off with
    | some c, some d => if s.lmp.evals = 8 then placeOffCheck d s else placeEvaluation c s
    | some c, none => placeEvaluation c s
    | none, some d => placeOffCheck d s
    | none, none => s

/-- The channel the test's step asks for, if it asks for one. -/
def Test.channel (t : Test) : Option Channel :=
  match t.step with
  | .openV | .loadedV => some (.voltage t.circuit)
  | .loop => some (.loop t.circuit)
  | .leak => some (.leak t.circuit)
  | .loadSettle | .testSettle => none

/-- CBL places the request of the test's step once its slot is EMPTY (R152, R153; log 29). -/
def placeCbl (s : State) : State :=
  match s.cbl.test with
  | none => s
  | some t =>
    match t.channel with
    | none => s
    | some ch =>
      if t.placed || s.mea.cbl ≠ .empty then s
      else
        place .cbl ⟨ch, countOf s t.circuit, false⟩ (s.onCbl fun c => { c with test := some { t with placed := true } })

/-- R151: with no test in flight, CBL starts one on the first eligible due circuit. -/
def startTest (s : State) : State :=
  if s.cbl.test.isSome then s
  else
    match nextTest s with
    | some c => s.onCbl fun x => { x with test := some { circuit := c } }
    | none => s

/-- R111: the owner of a slot places what its rules ask for. -/
def ownerPlaces (i : MSlot) (s : State) : State :=
  match i with
  | .proof => placeProof s
  | .routine => placeRoutine s
  | .cbl => placeCbl (startTest s)
  | .diag => placeDiag s

/-- What LMP, CBL and MEA do at once whenever their conditions hold: place requests, start a test, and grant. Requests
that one command places together are all placed before the grant (DESIGN CHOICE, log 42). -/
def measures (carry : Nat) (s : State) : State :=
  grant carry (placeDiag (placeCbl (startTest (placeRoutine (placeProof s)))))

/-! ### Release and abandonment -/

/-- R148: a release is commanded from ON. -/
def commandRelease (afterTest : Bool) (s : State) : State :=
  match s.cbl.pos with
  | .on c m => s.onCbl fun x => { x with pos := .releasing c m afterTest, release := some (Timer.start 100) }
  | _ => s

def satInc8 (n : Nat) : Nat := min (n + 1) 255

/-- The cable section of a circuit, changed. -/
def onCable (c : Circuit) (f : Cable → Cable) (s : State) : State :=
  s.onCbl fun x => { x with cable := x.cable.modify c f }

/-- R160: the test in flight is abandoned. -/
def abandon (s : State) : State :=
  match s.cbl.test with
  | none => s
  | some t =>
    onCable t.circuit (fun x => { x with abandons := satInc8 x.abandons })
      ((withdraw .cbl (commandRelease false s)).onCbl fun x => { x with test := none })

/-- R159: the events that abandon a test, as they stand: its circuit is listed, entering, or its relay is not OPEN. -/
def cblWatch (s : State) : State :=
  match s.cbl.test with
  | none => s
  | some t =>
    if s.seq.switchOn.get t.circuit || (relayAt s t.circuit).entering || relayState s t.circuit ≠ .open then abandon s
    else s

end Sys2Proof.Machine
end

