-- ==== Sys2Proof/Machine/Switching.lean ====
section
/-! DEFINITION. The Output Switch Unit: relay and contactor transitions (R88, R89, R92), switching phases (R93 to R96),
group commands and break-before-make (R97 to R99), the interlocks (R100, R101) and the conflict monitor (R103). -/

namespace Sys2Proof.Machine

/-! ### One coil with its contact (R88, R89) -/

/-- What a coil's transition tells FLT. -/
inductive CoilFault where | quiet | raiseClosed | raiseOpen | clearClosed | clearOpen
deriving DecidableEq, Repr

/-- Entry into OPEN or CLOSED: the time of last proven change is the present; the timer stops. -/
def Coil.prove (st : RelayState) (now : Stamp) (k : Coil) : Coil :=
  { k with state := st, lastChange := some now, timer := none }

/-- Entry into CLOSING, which its feedback may settle at once (R88). -/
def Coil.close (now : Stamp) (pullIn : Nat) (k : Coil) : Coil :=
  if k.feedback then k.prove .closed now else { k with state := .closing, timer := some (Timer.start pullIn) }

/-- Entry into OPENING, which its feedback may settle at once (R88). -/
def Coil.release (now : Stamp) (dropOut : Nat) (k : Coil) : Coil :=
  if k.feedback then { k with state := .opening, timer := some (Timer.start dropOut) } else k.prove .open now

/-- Entry into a failed state. -/
def Coil.fail (st : RelayState) (k : Coil) : Coil := { k with state := st, timer := none }

/-- R88: the commanded field takes a new value. -/
def Coil.command (on : Bool) (now : Stamp) (tm : TimingRec) (k : Coil) : Coil × CoilFault :=
  let k := { k with commanded := on }
  match k.state, on with
  | .open, true | .opening, true => (k.close now tm.pullIn, .quiet)
  | .closing, false | .closed, false => (k.release now tm.dropOut, .quiet)
  | .failedOpen, false => (k.prove .open now, .clearOpen)
  | .failedClosed, true => (k.prove .closed now, .clearClosed)
  | _, _ => (k, .quiet)

/-- R89: an accepted change of the feedback. -/
def Coil.feed (closed : Bool) (now : Stamp) (k : Coil) : Coil × CoilFault :=
  let k := { k with feedback := closed, debounce := none }
  match k.state, closed with
  | .open, true => (k.fail .failedClosed, .raiseClosed)
  | .closing, true => (k.prove .closed now, .quiet)
  | .closed, false => (k.fail .failedOpen, .raiseOpen)
  | .opening, false => (k.prove .open now, .quiet)
  | .failedOpen, true => (k.prove .closed now, .clearOpen)
  | .failedClosed, false => (k.prove .open now, .clearClosed)
  | _, _ => (k, .quiet)

/-- R89: the transition timer expires. -/
def Coil.expire (k : Coil) : Coil × CoilFault :=
  match k.state with
  | .closing => (k.fail .failedOpen, .raiseOpen)
  | .opening => (k.fail .failedClosed, .raiseClosed)
  | _ => (k, .quiet)

/-- R87: a change of the raw level starts the debounce, and a return to the accepted level cancels it. -/
def Coil.input (closed : Bool) (k : Coil) : Coil :=
  if k.raw = closed then k
  else { k with raw := closed, debounce := if closed = k.feedback then none else some 0 }

/-- R87: the input has held its new level for the debounce time. -/
def Coil.settled (k : Coil) : Bool := k.debounce.any fun ms => 5 ≤ ms

/-- The raise or the clear a transition makes, under the kinds of its owner. -/
def coilFault (f : CoilFault) (failClosed failOpen : FaultKind) (j : Subject) (s : State) : State :=
  match f with
  | .quiet => s
  | .raiseClosed => raise failClosed j s
  | .raiseOpen => raise failOpen j s
  | .clearClosed => clear failClosed j s
  | .clearOpen => clear failOpen j s

/-! ### Relays and the contactor -/

/-- A relay section, changed. -/
def onRelay (c : Circuit) (f : Relay → Relay) (s : State) : State :=
  s.onOsw fun o => { o with relay := o.relay.modify c f }

/-- A relay's transition, with what FLT hears of it (R90). -/
def relayTo (c : Circuit) (r : Coil × CoilFault) (s : State) : State :=
  coilFault r.2 .relayFailClosed .relayFailOpen (.circuit c) (onRelay c (fun x => { x with coil := r.1 }) s)

/-- R88: a circuit is commanded on or off; a change of the commanded field raises the switch count. -/
def commandRelay (c : Circuit) (on : Bool) (s : State) : State :=
  if (relayAt s c).coil.commanded = on then s
  else
    relayTo c ((relayAt s c).coil.command on s.stamp s.jds.timing)
      (onRelay c (fun x => { x with switchCount := x.switchCount + 1 }) s)

/-- R53: SEQ hears that the contactor is proven CLOSED; in START-ALL-RED it starts the start-up all-red timer. -/
def contactorNotice (s : State) : State :=
  if s.seq.state = .startAllRed then
    s.onSeq fun q => { q with allRed := some (Timer.start (100 * s.jds.timing.startUpAllRed)) }
  else s

/-- R92: a transition of the contactor, with what FLT and SEQ hear of it. -/
def contactorTo (r : Coil × CoilFault) (s : State) : State :=
  let t := coilFault r.2 .contactorFailClosed .contactorFailOpen .none (s.onOsw fun o => { o with contactor := r.1 })
  if r.1.state = .closed && s.osw.contactor.state ≠ .closed then contactorNotice t else t

/-- R92: the contactor is commanded on or off. -/
def commandContactor (on : Bool) (s : State) : State :=
  if s.osw.contactor.commanded = on then s else contactorTo (s.osw.contactor.command on s.stamp s.jds.timing) s

/-! ### Group commands (R98, R99) -/

def setEntering (c : Circuit) (b : Bool) (s : State) : State := onRelay c (fun x => { x with entering := b }) s

/-- R98: one circuit against the newest command. -/
def actCircuit (c : Circuit) (s : State) : State :=
  if (relayAt s c).coil.commanded then
    if wanted s c then s else commandRelay c false (setEntering c false s)
  else setEntering c (wanted s c) s

/-- R98: the stored command of a group is acted on. -/
def act (g : Group) (s : State) : State := (circuitsOf g).foldl (fun t c => actCircuit c t) s

/-- R99: an entering circuit that meets the switching conditions is commanded on. -/
def judgeCircuit (c : Circuit) (s : State) : State :=
  if (relayAt s c).entering && mayEnergise s c then commandRelay c true (setEntering c false s) else s

/-- R101: an entering circuit with the injector connected asks once for its release, and CBL answers. After a dark
sequence has set release-asked to no (R102), a circuit that enters again under the same release asks again (DESIGN
CHOICE, log 48). -/
def askCircuit (c : Circuit) (s : State) : State :=
  if (relayAt s c).entering && s.cbl.pos.circuit = some c && !(relayAt s c).releaseAsked then
    commandRelease false (abandon (onRelay c (fun x => { x with releaseAsked := true }) s))
  else s

/-! ### Phases (R93 to R96) -/

/-- R95, R96: REDS-FIRST follows the dark sequence only behind a contactor proven OPEN; a contactor that has failed closed
takes the junction DARK (R174), and leaves the outputs off (log 13). -/
def restartsBehind (s : State) : Bool :=
  s.osw.contactor.state = .open && (s.flt.mode = .startUp || s.flt.mode = .allRed)

/-- R93, R95: the dark sequence's second step, and the phase after it. The relays are commanded off by circuit number
(DESIGN CHOICE, log 50). -/
def completeDark (s : State) : State :=
  let t := forEach (fun c => commandRelay c false) s
  if restartsBehind s then
    forEach act (t.onOsw fun o => { o with phase := .redsFirst })
  else t.onOsw fun o => { o with phase := .outputsOff }

def darkCheck (s : State) : State :=
  if s.osw.phase = .contactorRelease &&
      (s.osw.contactor.state = .open || s.osw.contactor.state = .failedClosed) then completeDark s
  else s

/-- R94: every fitted red CLOSED in REDS-FIRST commands the contactor on. -/
def redsCheck (s : State) : State :=
  if s.osw.phase = .redsFirst && redsClosed s then
    commandContactor true (s.onOsw fun o => { o with phase := .live })
  else s

/-- R103: the conflict condition of one group, raised and cleared at its changes. Where JUNCTION-OPEN or JUNCTION-ACCEPT
has changed which groups are used, the condition follows at the next event of OSW (DESIGN CHOICE, log 49). -/
def conflictGroup (g : Group) (s : State) : State :=
  onChange (s.osw.conflict.get g) (conflictNow s g) .conflict (.group g)
    (s.onOsw fun o => { o with conflict := o.conflict.set g (conflictNow s g) })

/-- R135: the proof flag of a circuit that is not evaluable is cleared. -/
def unproveCircuit (c : Circuit) (s : State) : State :=
  if (s.lmp.lamp.get c).proof && !evaluable s c then
    s.onLmp fun l => { l with lamp := l.lamp.modify c fun x => { x with proof := false } }
  else s

/-- R125, R135: LMP re-judges evaluability. -/
def lmpWatch (s : State) : State := forEach unproveCircuit s

/-- What OSW judges at every change of a relay, the contactor, the phase, a command or the injector, and what LMP and
CBL see of it: the dark sequence, the switching conditions, the release asks, REDS-FIRST, the conflict monitor. Circuits
commanded at one moment are taken by number (DESIGN CHOICE, log 50). -/
def oswAfter (s : State) : State :=
  cblWatch (lmpWatch (forEach conflictGroup (redsCheck (forEach askCircuit (forEach judgeCircuit (darkCheck s))))))

/-- R97: a group command from SEQ. -/
def groupCommand (g : Group) (st : GState) (s : State) : State :=
  let t := s.onOsw fun o => { o with stored := o.stored.set g st }
  if s.osw.phase = .redsFirst || s.osw.phase = .live then oswAfter (act g t) else t

/-- R95: the dark sequence begins. -/
def darkStart (s : State) : State :=
  commandContactor false
    (s.onOsw fun o =>
      { o with
        phase := .contactorRelease
        stored := Tab.const 16 .off
        relay := o.relay.map fun r => { r with entering := false, releaseAsked := false } })

/-- R93: OSW acts on a change of junction mode. -/
def oswMode (m : Mode) (s : State) : State :=
  match m with
  | .startUp =>
    if s.osw.phase = .outputsOff then oswAfter (forEach act (s.onOsw fun o => { o with phase := .redsFirst })) else s
  | .dark =>
    if s.osw.phase = .redsFirst || s.osw.phase = .live then oswAfter (darkStart s) else s
  | _ => s

end Sys2Proof.Machine
end

