-- ==== Sys2Proof/Machine/Plans.lean ====
section
/-! DEFINITION. Plan validation (R60), the schedule's choice (R71), the selection evaluation (R64, R65, R72), held
demands (R26) and the taking of a pending plan (R67, R68). -/

namespace Sys2Proof.Machine

/-! ### Validation (R60) -/

/-- The entry after `e` in a sequence of `n` entries, the first after the last. -/
def entryAfter (n : Nat) (e : Entry) : Entry :=
  if h : e.val + 1 < n ∧ e.val + 1 < 12 then ⟨e.val + 1, h.2⟩ else 0

/-- The last entry of the sequence, if it has any. -/
def PlanSlot.last? (p : PlanSlot) : Option Entry := p.used.getLast?

def PlanSlot.stageAt (p : PlanSlot) (e : Entry) : Stage := (p.entries.get e).stage

/-- Check 4: the lowest entry whose stage equals its successor's; the last entry when it equals the first. -/
def PlanSlot.repeated (p : PlanSlot) : Option Entry :=
  match p.used.find? fun e => e.val + 1 < p.length && p.stageAt e = p.stageAt (entryAfter p.length e) with
  | some e => some e
  | none => if 2 ≤ p.length then p.last?.filter fun e => p.stageAt e = p.stageAt 0 else none

/-- The lowest-numbered group of a stage whose minimum-green floor exceeds `minGreen`. -/
def floorAbove (s : State) (k : Stage) (minGreen : Nat) : Option Group :=
  (s.jds.stageSet k).members.find? fun g => minGreen < (s.jds.group.get g).floor

/-- Checks 5 and 6, which are made at close and again at acceptance (R17). -/
def descriptionError (s : State) (p : PlanSlot) : Option CloseError :=
  match p.used.find? fun e => !s.jds.defined (p.stageAt e) with
  | some e => some ⟨5, some e, none⟩
  | none =>
    p.used.findSome? fun e =>
      (floorAbove s (p.stageAt e) (p.entries.get e).minGreen).map fun g => ⟨6, some e, some g⟩

/-- R60: the first failing check, with its subject. -/
def closeError (s : State) (p : PlanSlot) : Option CloseError :=
  if !s.jds.accepted then some ⟨1, none, none⟩
  else if p.id = 0 then some ⟨2, none, none⟩
  else if p.length = 0 then some ⟨3, none, none⟩
  else
    match p.repeated with
    | some e => some ⟨4, some e, none⟩
    | none => descriptionError s p

/-- R60: the two clamps of one entry. -/
def PlanEntry.clamp (e : PlanEntry) : PlanEntry :=
  { e with maxGreen := max e.maxGreen e.minGreen, gap := min e.gap 100 }

/-- R60: the clamps on the entries of the sequence. -/
def PlanSlot.clamp (p : PlanSlot) : PlanSlot :=
  { p with entries := p.used.foldl (fun t e => t.modify e PlanEntry.clamp) p.entries }

def validSlot (s : State) (p : Slot) : Bool := (planAt s p).state = .valid

/-- Some plan slot changed. -/
def onSlot (p : Slot) (f : PlanSlot → PlanSlot) (s : State) : State :=
  s.onPlans fun l => { l with slot := l.slot.modify p f }

/-! ### The schedule's choice (R71) -/

def SchedEntry.startMinute (e : SchedEntry) : Nat := 60 * e.hours + e.minutes

/-- R71: the entry qualifies on the day. -/
def qualifies (s : State) (d : Fin 7) (e : SchedIx) : Bool :=
  (s.plans.schedule.get e).used && (s.plans.schedule.get e).days.get d

/-- The entry of the list with the latest start, the lower number of equals. -/
def latest (s : State) : List SchedIx → Option SchedIx
  | [] => none
  | e :: l =>
    match latest s l with
    | none => some e
    | some f =>
      if (s.plans.schedule.get f).startMinute ≤ (s.plans.schedule.get e).startMinute then some e else some f

/-- `n` days before a day, wrapping from day 1 to day 7, for `n` up to 7. -/
def daysBefore (d : Fin 7) (n : Nat) : Fin 7 := ⟨(d.val + (7 - n)) % 7, Nat.mod_lt _ (by decide)⟩

/-- The latest start among the entries that qualify on a day. -/
def choiceOn (s : State) (d : Fin 7) : Option SchedIx := latest s ((allFin 16).filter (qualifies s d))

/-- R71: the schedule's choice: today up to now, then the six days before, then today's day last week. -/
def scheduleChoice (s : State) : Option SchedIx :=
  s.plans.clock.bind fun t =>
    let started e := (s.plans.schedule.get e).startMinute ≤ 60 * t.hours + t.minutes
    match latest s ((allFin 16).filter fun e => qualifies s t.day e && started e) with
    | some e => some e
    | none => [1, 2, 3, 4, 5, 6, 7].findSome? fun n => choiceOn s (daysBefore t.day n)

/-- The choice with the slot it names. -/
def choiceWithSlot (s : State) : Option (SchedIx × Slot) :=
  (scheduleChoice s).map fun e => (e, (s.plans.schedule.get e).slot)

/-! ### Selection (R64, R65, R72) -/

/-- R64: the selected slot. -/
def selected (s : State) : Option Slot :=
  match s.plans.override.filter (validSlot s) with
  | some p => some p
  | none =>
    match ((choiceWithSlot s).map (·.2)).filter (validSlot s) with
    | some p => some p
    | none => (allFin 4).find? (validSlot s)

/-- R72: a choice that differs from the last activated one is activated; its slot may be unavailable. -/
def activate (s : State) : State :=
  let c := choiceWithSlot s
  if c = s.plans.lastChoice then s
  else
    let t := s.onPlans fun l => { l with lastChoice := c }
    match c with
    | some (e, p) => if validSlot s p then t else post .planUnavailable false (.sched e) [number p] t
    | none => t

/-- R64: the selection evaluation. -/
def evaluate (s : State) : State :=
  let t := activate s
  let r := selected t
  t.onPlans fun l => { l with pendingPlan := if r = l.inForce then none else r }

/-! ### The demand set (R25, R26) -/

/-- R25: a posting to the demand set. -/
def postDemand (k : Stage) (s : State) : State :=
  if stageShown s && s.seq.current = some k then s
  else s.onSeq fun q => { q with demand := q.demand.set k true }

/-- R26: the flag of a stage that has a held demand and is not current is set. -/
def holdDemand (k : Stage) (s : State) : State :=
  if heldDemand s k && s.seq.current ≠ some k then s.onSeq fun q => { q with demand := q.demand.set k true } else s

/-- R26, R67: every held demand. -/
def holdDemands (s : State) : State := forEach holdDemand s

/-- R26: the stage that is no longer current re-posts its held and PRESENCE demands. -/
def repost (k : Stage) (s : State) : State :=
  if heldDemand s k || presenceDemands s k then s.onSeq fun q => { q with demand := q.demand.set k true } else s

/-! ### Taking the pending plan (R67, R68) -/

inductive Occasion where | commit | startUp | resume | description
deriving DecidableEq, Repr

def Occasion.code : Occasion → Byte
  | .commit => 0 | .startUp => 1 | .resume => 2 | .description => 3

/-- R68: the PLAN-CHANGE report; with new slot none its plan id byte is 0 (DESIGN CHOICE, log 43). -/
def planChange (prev new : Option Slot) (o : Occasion) (s : State) : State :=
  post .planChange false (match new with | some p => .slot p | none => .none)
    [number? prev, b8 ((new.map fun p => (planAt s p).id).getD 0), o.code] s

/-- R67, R68: the pending plan, if there is one, becomes the plan in force. -/
def takePlan (o : Occasion) (s : State) : State :=
  match s.plans.pendingPlan with
  | none => s
  | some p =>
    let t := planChange s.plans.inForce (some p) o
      (s.onPlans fun l => { l with inForce := some p, pendingPlan := none })
    holdDemands (t.onSeq fun q => { q with position := q.current.bind (planAt t p).firstNaming })

end Sys2Proof.Machine
end

