-- ==== Sys2Proof/Machine/Sequencer.lean ====
section
/-! DEFINITION. The Stage Sequencer: stage ends (R29 to R34), COMMIT (R35 to R38), the interstage (R39 to R45),
termination and resumption (R49 to R51), start-up (R52, R53), and its answer to a change of junction mode. -/

namespace Sys2Proof.Machine

/-! ### Losing and gaining groups (R36) -/

/-- The group set of the current stage, empty with none. -/
def currentSet (s : State) : Flags 16 := (s.seq.current.map s.jds.stageSet).getD (Tab.const 16 false)

/-- The group set of a target, empty for the empty target. -/
def Target.groups (j : Jds) : Target → Flags 16
  | .stage k _ => j.stageSet k
  | _ => Tab.const 16 false

/-- R36: the groups of the current stage that the target does not hold. -/
def losing (s : State) (t : Target) (g : Group) : Bool := (currentSet s).get g && !(t.groups s.jds).get g
/-- R36: the groups of the target that the current stage does not hold. -/
def gaining (s : State) (t : Target) (g : Group) : Bool := (t.groups s.jds).get g && !(currentSet s).get g

def isVehicle (s : State) (g : Group) : Bool := s.jds.kindOf g = .vehicle

/-- ra(n) of R40. -/
def redAmberOf (s : State) (n : Group) : Nat := if isVehicle s n then (s.jds.group.get n).redAmber else 0

/-- R36: the pending switch-on set. -/
def switchOnSet (s : State) (t : Target) : Flags 48 :=
  Tab.ofFn fun c =>
    let g := groupOf c
    match aspectOf c with
    | .red => losing s t g
    | .amber => isVehicle s g && (losing s t g || (gaining s t g && 0 < redAmberOf s g))
    | .green => gaining s t g

/-! ### The choice of the target (R34) -/

/-- The entries of the plan in the order the search looks at them, from `start`. -/
def PlanSlot.searchFrom (p : PlanSlot) (start : Entry) : List Entry :=
  (p.used.filter fun e => start.val ≤ e.val) ++ p.used.filter fun e => e.val < start.val

/-- R34, R67: the search start. -/
def searchStart (s : State) (p : PlanSlot) : Entry :=
  match s.seq.position with
  | some e => entryAfter p.length e
  | none => 0

/-- R34: the target, from the start-up all-red (`first`), with the advance acted on. -/
def chooseTarget (first : Bool) (advance : Option Stage) (s : State) : Target :=
  match planInForce s with
  | none => .empty
  | some p =>
    let l := p.searchFrom (searchStart s p)
    let toward (e : Entry) : Target := .stage (p.stageAt e) e
    let atStart : Target := (l.head?.map toward).getD .empty
    if s.flt.mode = .allRed then .empty
    else
      match advance.bind fun x => l.find? fun e => p.stageAt e = x with
      | some e => toward e
      | none =>
        if first || p.mode = .fixedTime then atStart
        else ((l.find? fun e => s.seq.demand.get (p.stageAt e)).map toward).getD atStart

/-! ### COMMIT (R35) -/

/-- R31: with a stage current, the maximum timer starts at the first moment of demand elsewhere. -/
def startMaximum (s : State) : State :=
  if s.seq.current.isSome && s.seq.maximum = none && demandElsewhere s then
    s.onSeq fun q => { q with maximum := some 0 }
  else s

/-- The commit lead, 0.1 s units, as a running timer. -/
def leadTimer (s : State) : Timer := Timer.start (100 * s.jds.timing.commitLead)

/-- R35: entry into COMMIT: the pending plan, the demand elsewhere it may bring (R31), the target, the switch-on set,
the lead. -/
def commitEntry (advance : Option Stage) (o : Occasion) (s : State) : State :=
  let t := startMaximum (takePlan o s)
  let target := chooseTarget (s.seq.state = .startAllRed) (advance.or s.seq.pendingAdvance) t
  cblWatch (t.onSeq fun q =>
    { q with
      state := .commit
      target := target
      pendingAdvance := none
      switchOn := switchOnSet t target
      lead := some (leadTimer t) })

/-! ### Running a stage (R29 to R33) -/

/-- R29: the substate past the minimum. -/
def substatePast (s : State) : Substate :=
  if !inDemandPlan s || demandElsewhere s then .running else .resting

/-- R30: the gap timer is held at 0 while an extending detector holds it. -/
def holdGap (s : State) : State := if gapHeld s then s.onSeq fun q => { q with gap := some 0 } else s

/-- R29: RUNNING and RESTING follow demand elsewhere in STAGE. -/
def followDemand (s : State) : State :=
  if s.seq.state = .stage && (s.seq.substate = some .running || s.seq.substate = some .resting) then
    s.onSeq fun q => { q with substate := some (substatePast s) }
  else s

/-- What SEQ does whenever the demand set or a detector changes while a stage is current: R29, R30, R31. -/
def seqReact (s : State) : State := if stageShown s then followDemand (holdGap (startMaximum s)) else s

/-- R32, R33: the end of the current stage is decided. -/
def endDecided (s : State) : Bool :=
  s.seq.state = .stage && s.flt.mode = .run &&
  (if inDemandPlan s then
    (s.seq.substate = some .running || s.seq.substate = some .resting) && demandElsewhere s &&
      (gapExpired s || maxReached s)
  else fixedReached s)

/-- R32, R33: SEQ examines the end conditions. In a FIXED-TIME plan the minimum has passed with the end (R29). -/
def seqEnd (s : State) : State :=
  if endDecided s then
    commitEntry none .commit
      (if inDemandPlan s then s else s.onSeq fun q => { q with substate := some .running })
  else s

/-! ### Leaving a stage, all-red held, beginning a stage -/

/-- R26, R38: the current stage stops being current. -/
def stopCurrent (s : State) : State :=
  match s.seq.current with
  | none => s
  | some k =>
    repost k (s.onSeq fun q =>
      { q with
        current := none
        position := none
        substate := none
        elapsed := none
        gap := none
        maximum := none
        lastStage := some k })

/-- The time from the interstage start, 0 with none (R54), in STAGE-CHANGE and in STATUS-READ: in 0.1 s units, rounded
down, at most 65,534 (PRESUMED, log 17). -/
def interstageTime (s : State) : Nat := min ((s.seq.start.map fun t => tenths t.elapsed).getD 0) 65534

/-- R54: the STAGE-CHANGE report. -/
def stageChange (new prev : Option Stage) (time : Nat) (s : State) : State :=
  post .stageChange false (match new with | some k => .stage k | none => .none)
    (number? prev :: number? s.plans.inForce :: be16 time) s

/-- R45, R51: entry into ALL-RED-HELD. -/
def enterAllRedHeld (prev : Option Stage) (time : Nat) (s : State) : State :=
  stageChange none prev time (s.onSeq fun q =>
    { q with
      state := .allRedHeld
      substate := none
      current := none
      position := none
      target := .none
      pendingAdvance := none
      elapsed := none
      gap := none
      maximum := none
      lead := none
      allRed := none
      timetable := []
      switchOn := Tab.const 48 false
      start := none
      ended := none })

/-- R49: in ALL-RED a stage whose floor wait has passed is terminated. -/
def terminate (s : State) : State :=
  if s.seq.state = .stage && s.flt.mode = .allRed && floorReached s then commitEntry none .commit s else s

/-- R28: a stage begins. -/
def stageBegin (k : Stage) (e : Entry) (time : Nat) (s : State) : State :=
  let t := s.onSeq fun q =>
    { q with
      state := .stage
      substate := some .minimum
      current := some k
      position := some e
      target := .none
      pendingAdvance := if q.pendingAdvance = some k then none else q.pendingAdvance
      elapsed := some 0
      gap := some 0
      maximum := none
      lead := none
      timetable := []
      switchOn := Tab.const 48 false
      start := none
      ended := none
      demand := q.demand.set k false }
  terminate (stageChange (some k) (s.seq.current.or s.seq.lastStage) time (startMaximum t))

/-! ### The interstage (R39 to R45) -/

/-- R40: g(n), for the losing groups and the stage left. -/
def greenOffset (s : State) (t : Target) (n : Group) : Nat :=
  let held := s.jds.conflictingWith n
  let ends := (held.filter (losing s t)).map fun l => s.jds.ig l n
  let rest := (held.filter fun c => !(currentSet s).get c).map fun c =>
    ((s.seq.leg.get c).map fun u => s.jds.ig c n - tenths u.elapsed).getD 0
  (ends ++ rest).foldl max (redAmberOf s n)

/-- R39: the entries of a losing group. -/
def losingEntries (s : State) (l : Group) : List TtEntry :=
  if isVehicle s l then [{ offset := 0, group := l, state := .amber },
    { offset := (s.jds.group.get l).amber, group := l, state := .red }]
  else [{ offset := 0, group := l, state := .red }]

/-- R40: the entries of a gaining group. -/
def gainingEntries (s : State) (t : Target) (n : Group) : List TtEntry :=
  let g := greenOffset s t n
  if 0 < redAmberOf s n then [{ offset := g - redAmberOf s n, group := n, state := .redAmber },
    { offset := g, group := n, state := .green }]
  else [{ offset := g, group := n, state := .green }]

/-- R41: by offset, then by group. -/
def TtEntry.before (a b : TtEntry) : Bool :=
  a.offset < b.offset || (a.offset = b.offset && a.group.val ≤ b.group.val)

def insertEntry (a : TtEntry) : List TtEntry → List TtEntry
  | [] => [a]
  | b :: l => if a.before b then a :: b :: l else b :: insertEntry a l

/-- R41: the timetable, every entry PENDING. -/
def timetableFor (s : State) (t : Target) : List TtEntry :=
  let entriesOf (g : Group) : List TtEntry :=
    if losing s t g then losingEntries s g else if gaining s t g then gainingEntries s t g else []
  ((allFin 16).flatMap entriesOf).foldr insertEntry []

/-- R41: the interstage length D, the largest offset. -/
def interstageLength (l : List TtEntry) : Nat := (l.map (·.offset)).foldl max 0

/-- The time since the interstage start has reached an offset (R42). -/
def offsetReached (s : State) (n : Nat) : Bool := s.seq.start.any fun t => n ≤ tenths t.elapsed

/-- The first entry that satisfies `p`, changed by `f`. -/
def changeFirst (p : TtEntry → Bool) (f : TtEntry → TtEntry) : List TtEntry → List TtEntry
  | [] => []
  | a :: l => if p a then f a :: l else a :: changeFirst p f l

/-- The entry of the timetable equal to `e` takes a new status. -/
def mark (e : TtEntry) (st : EntryStatus) (limit : Nat) (s : State) : State :=
  s.onSeq fun q =>
    { q with timetable := changeFirst (fun a => a = e) (fun a => { a with status := st, proofLimit := limit }) q.timetable }

/-- R39: the entry is a losing group's end-of-green command. -/
def TtEntry.endsGreen (e : TtEntry) : Bool := e.offset = 0 && (e.state = .amber || e.state = .red)

/-- R42: an entry is issued. -/
def issue (e : TtEntry) (s : State) : State :=
  groupCommand e.group e.state ((mark e .issued e.proofLimit s).onSeq fun q =>
    { q with
      commanded := q.commanded.set e.group e.state
      leg := if e.endsGreen then q.leg.set e.group q.start else q.leg })

/-- R42, R43: an entry that has reached its offset: issued, or HELD by the red proof gate. -/
def reachEntry (e : TtEntry) (s : State) : State :=
  if e.state = .green && !redProven s e.group then mark e .held s.jds.timing.redProofLimit s else issue e s

/-- The first PENDING entry that has reached its offset. -/
def dueEntry (s : State) : Option TtEntry :=
  s.seq.timetable.find? fun e => e.status = .pending && offsetReached s e.offset

/-- R43: HELD entries are examined again at a change of the proof flags, and those released are issued in timetable order
(DESIGN CHOICE, log 64). -/
def heldCheck (s : State) : State :=
  (s.seq.timetable.filter fun e => e.status = .held).foldl
    (fun t e => if t.seq.state = .interstage && redProven t e.group then issue e t else t) s

/-- R44: the HELD entry whose limit has been reached; of several, the first of the timetable (DESIGN CHOICE, log 64). -/
def timedOut (s : State) : Option TtEntry :=
  s.seq.timetable.find? fun e => e.status = .held && offsetReached s (e.offset + e.proofLimit)

/-- R44: the lowest-numbered group that conflicts with `n` and lacks red proof. -/
def unproven (s : State) (n : Group) : Option Group :=
  (s.jds.conflictingWith n).find? fun g => !(s.lmp.lamp.get (redOf g)).proof

/-- R45: the interstage has run its length and every entry is ISSUED. -/
def interstageOver (s : State) : Bool :=
  s.seq.state = .interstage && offsetReached s (interstageLength s.seq.timetable) &&
  s.seq.timetable.all fun e => e.status = .issued

/-- R45: what follows the interstage. -/
def endInterstage (s : State) : State :=
  match s.seq.target with
  | .stage k e => stageBegin k e (interstageTime s) s
  | _ => enterAllRedHeld s.seq.ended (interstageTime s) s

/-- R38: what follows the commit lead once the current stage has stopped, from the timetable computed before. -/
def afterLead (target : Target) (entries : List TtEntry) (ended : Option Stage) (s : State) : State :=
  match entries, target with
  | [], .stage k e => stageBegin k e 0 s
  | [], _ => enterAllRedHeld ended 0 s
  | entries, _ =>
    let t := s.onSeq fun q =>
      { q with state := .interstage, lead := none, start := some s.stamp, timetable := entries, ended := ended }
    if s.flt.mode = .startUp then toFlt .firstInterstage t else t

/-- The target names the current stage (R38). -/
def sameStage (s : State) : Bool :=
  match s.seq.target with
  | .stage k _ => s.seq.current = some k
  | _ => false

/-- R38: the commit lead expires. -/
def leadExpires (s : State) : State :=
  afterLead s.seq.target (timetableFor s s.seq.target) s.seq.current (if sameStage s then s else stopCurrent s)

/-! ### SEQ's answer to a change of junction mode -/

/-- R23: IDLE. -/
def seqIdle (s : State) : State :=
  (stopCurrent s).onSeq fun q =>
    { q with
      state := .idle
      substate := none
      position := none
      target := .none
      pendingAdvance := none
      elapsed := none
      gap := none
      maximum := none
      lead := none
      allRed := none
      start := none
      timetable := []
      switchOn := Tab.const 48 false
      commanded := Tab.const 16 .off
      ended := none }

/-- R52: one used group is commanded RED. -/
def redGroup (g : Group) (s : State) : State :=
  if s.jds.used g then groupCommand g .red (s.onSeq fun q => { q with commanded := q.commanded.set g .red }) else s

/-- R52: START-ALL-RED. -/
def seqStart (s : State) : State :=
  forEach redGroup (s.onSeq fun q =>
    { q with
      state := .startAllRed
      substate := none
      current := none
      position := none
      target := .none
      pendingAdvance := none
      allRed := none
      timetable := []
      switchOn := Tab.const 48 false
      leg := Tab.const 16 none })

/-- R50, R159: a COMMIT toward a stage is changed to the empty target, and CBL sees the recomputed switch-on set. -/
def emptyTarget (s : State) : State :=
  match s.seq.target with
  | .stage _ _ => cblWatch (s.onSeq fun q => { q with target := .empty, switchOn := switchOnSet s .empty })
  | _ => s

/-- R48 to R50: the junction mode becomes ALL-RED. -/
def seqAllRed (s : State) : State :=
  let t := s.onSeq fun q => { q with pendingAdvance := none }
  if t.seq.state = .commit then emptyTarget t else terminate t

/-- R51, R53: no stage is current, no advance is pending and the start-up all-red timer does not run, whatever stood
before. -/
def noStage (s : State) : State :=
  s.onSeq fun q => { q with current := none, position := none, pendingAdvance := none, allRed := none }

/-- SEQ's answer to a change of junction mode, which FLT has made already (2, table at the head). -/
def seqMode (prev new : Mode) (s : State) : State :=
  match prev, new with
  | _, .dark | _, .unconfigured => seqIdle s
  | _, .startUp => seqStart s
  | _, .allRed => seqAllRed s
  | .hold, .run => seqEnd s
  | .allRed, .run => commitEntry none .resume (noStage s)
  | _, _ => s

/-- R47: the effect of a taken ADVANCE. -/
def advanceTo (x : Stage) (s : State) : State :=
  match s.seq.state with
  | .stage =>
    if s.seq.current = some x then s
    else if s.seq.substate = some .minimum then s.onSeq fun q => { q with pendingAdvance := some x }
    else commitEntry (some x) .commit s
  | .commit | .interstage => s.onSeq fun q => { q with pendingAdvance := some x }
  | _ => s

/-- R29, R48: the substate leaves MINIMUM. -/
def minimumExpires (s : State) : State :=
  let t := s.onSeq fun q => { q with substate := some (substatePast s) }
  match t.seq.pendingAdvance with
  | some x => if t.flt.mode = .run || t.flt.mode = .hold then commitEntry (some x) .commit t else t
  | none => seqEnd t

/-- R53: the start-up all-red timer expires. -/
def startUpEnds (s : State) : State :=
  let t := takePlan .startUp (noStage s)
  if t.flt.mode = .allRed then enterAllRedHeld none 0 t else commitEntry none .startUp t

end Sys2Proof.Machine
end

