-- ==== Sys2Proof/Machine/Faults.lean ====
section
/-! DEFINITION. The Fault Response Unit: changes of junction mode with their hand-offs (R167, R168), raises, clears and
retest results (R175 to R181), auto restart (R170), and the taking of the events that reach FLT. -/

namespace Sys2Proof.Machine

/-! ### The active fault list (R177, R178, R183) -/

/-- R183: the list changed, with the FAULT output asserted while it holds an ACTIVE entry. -/
def setList (l : List FEntry) (s : State) : State :=
  s.onFlt fun f => { f with list := l, output := l.any FEntry.isActive }

/-- The entry is of this kind and subject. -/
def FEntry.is (k : FaultKind) (j : Subject) (e : FEntry) : Bool := e.kind = k && e.subject = j

def findEntry (k : FaultKind) (j : Subject) (s : State) : Option FEntry := s.flt.list.find? (FEntry.is k j)

/-- The entry of this kind and subject changed. -/
def changeEntry (k : FaultKind) (j : Subject) (f : FEntry → FEntry) (s : State) : State :=
  setList (s.flt.list.map fun e => if e.is k j then f e else e) s

/-- The list without its first CLEARED entry, if it has one (R178). -/
def evict : List FEntry → Option (List FEntry)
  | [] => none
  | e :: l => if e.state = .cleared then some l else (evict l).map (e :: ·)

/-- R177, R178: the raise recorded; the occurrences its report carries. -/
def record (k : FaultKind) (j : Subject) (s : State) : Nat × State :=
  let new : FEntry := { kind := k, subject := j, first := s.uptime, last := s.uptime }
  match findEntry k j s with
  | some e =>
    (satInc8 e.occurrences,
      changeEntry k j (fun e => { e with state := .active, last := s.uptime, occurrences := satInc8 e.occurrences }) s)
  | none =>
    if s.flt.list.length < 32 then (1, setList (s.flt.list ++ [new]) s)
    else
      match evict s.flt.list with
      | some l => (1, setList (l ++ [new]) s)
      | none => (0, s.onFlt fun f => { f with overflow := true })

/-- R180: the kinds set aside at an entry into DARK. -/
def FaultKind.lampBased : FaultKind → Bool
  | .redOut | .redProofTimeout | .lampDegraded | .lampOut | .lampOvercurrent | .onWhenOff => true
  | _ => false

/-- R180: the lamp-based ACTIVE entries become PENDING-RETEST. -/
def setAside (s : State) : State :=
  setList (s.flt.list.map fun e => if e.isActive && e.kind.lampBased then { e with state := .pendingRetest } else e) s

/-! ### Changes of junction mode (R168) -/

/-- The cause a MODE report carries (R168, R207). -/
inductive ModeCause where
  | request (kind : Byte) | fault (k : FaultKind) (j : Subject) | acceptance | autoRestart | firstInterstage
deriving DecidableEq, Repr

/-- R207: the cause class and the cause value. -/
def ModeCause.bytes : ModeCause → List Byte
  | .request k => [1, k]
  | .fault k _ => [2, b8 k.code]
  | .acceptance => [3, 0]
  | .autoRestart => [4, 0]
  | .firstInterstage => [5, 0]

def ModeCause.subject : ModeCause → RSubject
  | .fault _ j => j.report
  | _ => .none

/-- R143: the lamp section of a fitted circuit at a restart. -/
def Lamp.restart (lamps : Nat) (x : Lamp) : Lamp :=
  { state := if x.state = .learning then .learning else .unproven
    p := x.p
    k := lamps
    learn := x.learn
    cause := x.cause
    retest := some 0
    offRetest := some 0 }

/-- R143: LMP re-initialises the sections of the fitted circuits. -/
def lmpRestart (s : State) : State :=
  s.onLmp fun l =>
    { l with
      lamp := Tab.ofFn fun c =>
        if s.jds.fitted c then (l.lamp.get c).restart (s.jds.circuit.get c).lamps else l.lamp.get c }

/-- R168: the MODE report. -/
def modeReport (prev new : Mode) (cause : ModeCause) (s : State) : State :=
  post .mode (new = .dark || new = .allRed) cause.subject (b8 prev.code :: b8 new.code :: cause.bytes) s

/-- R168: the junction mode changes: the set-aside on an entry into DARK, the hand-offs to SEQ, OSW and LMP, and the
MODE report (log 12). -/
def changeMode (new : Mode) (cause : ModeCause) (s : State) : State :=
  let prev := s.flt.mode
  let s := s.onFlt fun f => { f with mode := new }
  let s := if new = .dark then setAside s else s
  let s := oswMode new (seqMode prev new s)
  let s := if prev = .dark && new = .startUp then lmpRestart s else s
  modeReport prev new cause s

/-- An entry into DARK with its dark cause (R168). -/
def enterDark (dark : DarkCause) (cause : ModeCause) (s : State) : State :=
  changeMode .dark cause (s.onFlt fun f => { f with darkCause := dark })

/-! ### Clears and restarts (R170, R176, R179, R181) -/

/-- The FAULT-CLEARED report (R179). -/
def faultCleared (k : FaultKind) (j : Subject) (listed : Bool) (s : State) : State :=
  post .faultCleared false j.report [b8 k.code, flagByte listed] s

/-- The entry becomes CLEARED, with its report. -/
def clearEntry (k : FaultKind) (j : Subject) (s : State) : State :=
  faultCleared k j true (changeEntry k j (fun e => { e with state := .cleared }) s)

/-- R181: a RED-PROOF-TIMEOUT whose subject has no fitted red circuit. -/
def standIn (s : State) (e : FEntry) : Bool :=
  e.kind = .redProofTimeout && e.state ≠ .cleared &&
  match e.subject with
  | .group g => !s.jds.fitted (redOf g)
  | _ => false

/-- R181: the stand-in entries are cleared, in list order (DESIGN CHOICE, log 59). -/
def clearStandIns (s : State) : State :=
  (s.flt.list.filter (standIn s)).foldl (fun t e => clearEntry e.kind e.subject t) s

/-- R168, R176, R181: the change from DARK to START-UP, and on to ALL-RED where an ACTIVE entry asks for it
(log 12, log 32). -/
def startUp (cause : ModeCause) (s : State) : State :=
  let s := clearStandIns (changeMode .startUp cause s)
  match s.flt.list.find? fun e => e.isActive && responseOf s e.kind e.subject = .allRed with
  | some e => if s.flt.mode = .startUp then changeMode .allRed (.fault e.kind e.subject) s else s
  | none => s

/-- R170: auto restart is judged. -/
def autoRestart (s : State) : State := if autoRestartNow s then startUp .autoRestart s else s

/-- R179: a clear. -/
def takeClear (k : FaultKind) (j : Subject) (s : State) : State :=
  match findEntry k j s with
  | none => faultCleared k j false s
  | some e =>
    match e.state with
    | .active => autoRestart (clearEntry k j s)
    | .pendingRetest => clearEntry k j s
    | .cleared => s

/-- R181: a PENDING-RETEST entry of this kind and subject becomes CLEARED. -/
def passEntry (k : FaultKind) (j : Subject) (s : State) : State :=
  if (findEntry k j s).any fun e => e.state = .pendingRetest then clearEntry k j s else s

/-- R181: a passed retest; a passed RED-OUT also answers the group's RED-PROOF-TIMEOUT, whose FAULT-CLEARED follows its own
at once (DESIGN CHOICE, log 66). -/
def takePassed (k : FaultKind) (j : Subject) (s : State) : State :=
  if k = .redOut then passEntry .redProofTimeout j (passEntry k j s) else passEntry k j s

/-! ### Raises (R175) -/

/-- R175: the mode a response leads to. -/
def modeAfter (r : Response) (m : Mode) : Mode :=
  match r, m with
  | .allRed, .startUp | .allRed, .run | .allRed, .hold => .allRed
  | .dark, .startUp | .dark, .run | .dark, .hold | .dark, .allRed => .dark
  | _, m => m

/-- R175: the response applied to the mode as it stands. -/
def respond (r : Response) (k : FaultKind) (j : Subject) (s : State) : State :=
  let m := modeAfter r s.flt.mode
  if m = s.flt.mode then
    if r = .dark && m = .dark then s.onFlt fun f => { f with darkCause := .fault k } else s
  else if m = .dark then enterDark (.fault k) (.fault k j) s
  else changeMode m (.fault k j) s

/-- R175, R177, R178: a raise. -/
def takeRaise (k : FaultKind) (j : Subject) (detail : Byte) (s : State) : State :=
  let r := responseAtRaise s k j
  let (n, t) := record k j s
  respond r k j (post .faultRaised true j.report [b8 k.code, b8 n, b8 (modeAfter r s.flt.mode).code, detail] t)

/-! ### FLT takes its events one at a time (R168) -/

def fltTake (e : FltEvent) (s : State) : State :=
  match e with
  | .raise k j d => takeRaise k j d s
  | .clear k j => takeClear k j s
  | .passed k j => takePassed k j s
  | .firstInterstage => if s.flt.mode = .startUp then changeMode .run .firstInterstage s else s

/-- How many events FLT takes inside one command at most: far more than any command hands over (log 11). -/
def eventFuel : Nat := 4096

/-- FLT takes the events of its inbox, one at a time, until it is empty. -/
def drain : Nat → State → State
  | 0, s => s.onFlt fun f => { f with inbox := [] }
  | n + 1, s =>
    match s.flt.inbox with
    | [] => s
    | e :: l => drain n (fltTake e (s.onFlt fun f => { f with inbox := l }))

/-- FLT takes what the command handed it; then LMP, CBL and MEA do what their conditions ask at once. -/
def settle (s : State) : State := measures 0 (drain eventFuel s)

/-- The end of an event's command: everything settled, and the transmitter looks for a frame. -/
def conclude (s : State) : State := finish (settle s)

end Sys2Proof.Machine
end

