-- ==== Sys2Proof/Machine/Control.lean ====
section
/-! DEFINITION. The junction control requests: RESTART, RESUME, GO-ALL-RED, GO-DARK, HOLD, RELEASE-HOLD, ADVANCE,
DEMAND-INSERT and STATUS-READ (R27, R47, R54, R169 to R173, R203). -/

namespace Sys2Proof.Machine

/-! ### Mode requests (R169 to R173) -/

/-- R169. -/
def judgeRestart : Judge := fun s =>
  if s.flt.mode ≠ .dark && s.flt.mode ≠ .unconfigured then (.no .wrongMode, s)
  else if !s.jds.accepted then (.no .noDescription, s)
  else if !somePlanValid s then (.no .noPlan, s)
  else if restartBlocked s then (.no .faultActive, s)
  else (.ok, settle (startUp (.request 0x18) (s.onFlt fun f => { f with restartPermitted := true })))

/-- R173. -/
def judgeResume : Judge := fun s =>
  if s.flt.mode ≠ .allRed then (.no .wrongMode, s)
  else if resumeBlocked s then (.no .faultActive, s)
  else if s.seq.state ≠ .allRedHeld then (.busy, s)
  else (.ok, settle (changeMode .run (.request 0x19) s))

/-- R171. -/
def judgeAllRed : Judge := fun s =>
  match s.flt.mode with
  | .startUp | .run | .hold => (.ok, settle (changeMode .allRed (.request 0x1A) s))
  | .allRed => (.ok, s)
  | .dark | .unconfigured => (.no .wrongMode, s)

/-- R172. -/
def judgeDark : Judge := fun s =>
  if s.flt.mode = .unconfigured then (.no .wrongMode, s)
  else
    let t := s.onFlt fun f => { f with restartPermitted := false, darkCause := .host }
    if s.flt.mode = .dark then (.ok, t) else (.ok, settle (enterDark .host (.request 0x1B) t))

/-- R171. -/
def judgeHold : Judge := fun s =>
  match s.flt.mode with
  | .run => (.ok, settle (changeMode .hold (.request 0x1C) s))
  | .hold => (.ok, s)
  | _ => (.no .wrongMode, s)

/-- R171. -/
def judgeRelease : Judge := fun s =>
  match s.flt.mode with
  | .hold => (.ok, settle (changeMode .run (.request 0x1D) s))
  | .run => (.ok, s)
  | _ => (.no .wrongMode, s)

/-! ### ADVANCE and DEMAND-INSERT -/

/-- R47. -/
def judgeAdvance (body : List Byte) : Judge := fun s =>
  if s.flt.mode ≠ .run && s.flt.mode ≠ .hold then (.no .wrongMode, s)
  else
    match index? 12 (byteAt body 0) with
    | none => (.badField 1, s)
    | some x =>
      if s.jds.defined x && (planInForce s).any (·.names x) then (.ok, settle (advanceTo x s)) else (.badField 1, s)

/-- R27. -/
def judgeDemand (body : List Byte) : Judge := fun s =>
  match index? 12 (byteAt body 0) with
  | none => (.badField 1, s)
  | some k => if s.jds.defined k then (.ok, settle (seqEnd (seqReact (postDemand k s)))) else (.badField 1, s)

/-! ### STATUS-READ (R54, R203) -/

def DarkCause.code : DarkCause → Byte
  | .none => 0 | .host => 0x40 | .acceptance => 0x41 | .fault k => b8 k.code

def SeqState.code : SeqState → Byte
  | .idle => 0 | .startAllRed => 1 | .stage => 2 | .commit => 3 | .interstage => 4 | .allRedHeld => 5

def Substate.code : Substate → Byte | .minimum => 0 | .running => 1 | .resting => 2

def GState.code : GState → Byte | .off => 0 | .red => 1 | .redAmber => 2 | .green => 3 | .amber => 4

def EntryStatus.code : EntryStatus → Byte | .pending => 0 | .held => 1 | .issued => 2

def RelayState.code : RelayState → Byte
  | .open => 0 | .closing => 1 | .closed => 2 | .opening => 3 | .failedClosed => 4 | .failedOpen => 5

def Phase.code : Phase → Byte | .outputsOff => 0 | .redsFirst => 1 | .live => 2 | .contactorRelease => 3

/-- Target kind, stage and entry. -/
def Target.bytes : Target → List Byte
  | .none => [0, 0, 0]
  | .stage k e => [1, number k, number e]
  | .empty => [2, 0, 0]

/-- R203: the step of the test in flight. -/
def TestStep.code : TestStep → Byte
  | .openV => 1
  | .loadSettle | .loadedV => 2
  | .testSettle | .loop | .leak => 3

/-- The injector's position, circuit and mode; a RELEASING injector shows the mode it was last ON in (DESIGN CHOICE,
log 58). -/
def InjPos.bytes : InjPos → List Byte
  | .free => [0, 0, 0xFF]
  | .on c m => [1, number c, if m = .load then 0 else 1]
  | .releasing c m _ => [2, number c, if m = .load then 0 else 1]

/-- A stage timer's 0.1 s count, which stops at 65534. -/
def timerCount (ms : Nat) : Nat := min (tenths ms) 65534

def TtEntry.bytes (e : TtEntry) : List Byte := [b8 e.offset, number e.group, e.state.code, e.status.code]

/-- R203. The unit of the time since the interstage start is the model's (PRESUMED, log 17). -/
def statusFields (s : State) : List Byte :=
  [b8 s.flt.mode.code, flagByte s.flt.restartPermitted, s.flt.darkCause.code, flagByte s.flt.overflow,
    b8 (s.flt.list.countP FEntry.isActive),
    b8 (match s.jds.desc with | .empty => 0 | .editing => 1 | .accepted => 2),
    number? s.plans.inForce, number? s.plans.pendingPlan, number? s.plans.override,
    b8 (((planInForce s).map (·.id)).getD 0),
    s.seq.state.code, (s.seq.substate.map Substate.code).getD 0xFF, number? s.seq.current, number? s.seq.position] ++
  word? (s.seq.elapsed.map timerCount) ++ s.seq.target.bytes ++ [number? s.seq.pendingAdvance] ++
  setBytes s.seq.demand ++ s.seq.commanded.list.map GState.code ++
  (allFin 16).map (fun g => packByte (display s g)) ++
  setBytes (Tab.ofFn fun g : Group => (s.lmp.lamp.get (redOf g)).proof) ++
  circuitSetBytes s.seq.switchOn ++
  [packByte [s.osw.contactor.commanded, s.osw.contactor.feedback], s.osw.contactor.state.code] ++
  uptime? s s.osw.contactor.lastChange ++ [s.osw.phase.code] ++
  s.cbl.pos.bytes ++ [number? (s.cbl.test.map (·.circuit)), (s.cbl.test.map (·.step.code)).getD 0] ++
  word? (if s.seq.state = .interstage then some (interstageTime s) else none) ++
  [b8 s.seq.timetable.length] ++ s.seq.timetable.flatMap TtEntry.bytes

/-! ### The commands -/

/-- RESTART (R169). -/
def execRestart (tag : Byte) (body : List Byte) (s : State) : Host.Outcome State Fault Refusal :=
  serve 0x18 tag body true body.isEmpty judgeRestart s

/-- RESUME (R173). -/
def execResume (tag : Byte) (body : List Byte) (s : State) : Host.Outcome State Fault Refusal :=
  serve 0x19 tag body true body.isEmpty judgeResume s

/-- GO_ALL_RED (R171). -/
def execGoAllRed (tag : Byte) (body : List Byte) (s : State) : Host.Outcome State Fault Refusal :=
  serve 0x1A tag body true body.isEmpty judgeAllRed s

/-- GO_DARK (R172). -/
def execGoDark (tag : Byte) (body : List Byte) (s : State) : Host.Outcome State Fault Refusal :=
  serve 0x1B tag body true body.isEmpty judgeDark s

/-- HOLD (R171). -/
def execHold (tag : Byte) (body : List Byte) (s : State) : Host.Outcome State Fault Refusal :=
  serve 0x1C tag body true body.isEmpty judgeHold s

/-- RELEASE_HOLD (R171). -/
def execReleaseHold (tag : Byte) (body : List Byte) (s : State) : Host.Outcome State Fault Refusal :=
  serve 0x1D tag body true body.isEmpty judgeRelease s

/-- ADVANCE (R47). -/
def execAdvance (tag : Byte) (body : List Byte) (s : State) : Host.Outcome State Fault Refusal :=
  serve 0x1E tag body true (body.length = 1) (judgeAdvance body) s

/-- DEMAND_INSERT (R27). -/
def execDemandInsert (tag : Byte) (body : List Byte) (s : State) : Host.Outcome State Fault Refusal :=
  serve 0x1F tag body true (body.length = 1) (judgeDemand body) s

/-- STATUS_READ (R54, R203). -/
def execStatusRead (tag : Byte) (body : List Byte) (s : State) : Host.Outcome State Fault Refusal :=
  serve 0x20 tag body true body.isEmpty (reads fun t => .gives (statusFields t)) s

end Sys2Proof.Machine
end

