-- ==== Sys2Proof/Machine/Lamps.lean ====
section
/-! DEFINITION. The Lamp Proving Unit: the evaluation arithmetic (R129 to R132), learning (R133, R134), red proof and
RED-OUT (R135, R136), lamp faults (R138, R139), the off-state check (R140), causes (R141) and retests (R144). -/

namespace Sys2Proof.Machine

def lampOf (s : State) (c : Circuit) : Lamp := s.lmp.lamp.get c
def circuitRec (s : State) (c : Circuit) : CircuitRec := s.jds.circuit.get c

/-- A lamp section, changed. -/
def onLamp (c : Circuit) (f : Lamp → Lamp) (s : State) : State :=
  s.onLmp fun l => { l with lamp := l.lamp.modify c f }

/-! ### The evaluation arithmetic (R129 to R131) -/

/-- R129: the raw current. -/
def rawCurrent (s : State) (r : Nat) : Nat := r - offsetInUse s

/-- R129: the normalised current. -/
def normalised (s : State) (tech : Technology) (iraw : Nat) : Nat :=
  if tech = .filament && s.mea.supply = .normal then (iraw * s.jds.timing.nominal + s.mea.s / 2) / s.mea.s else iraw

/-- R129: seeding, or filtering. -/
def Lamp.filtered (x : Lamp) (count : BitVec 16) (i : Nat) : Nat :=
  match x.avg with
  | some a => if x.evalCount = some count then (3 * a + i + 2) / 4 else i
  | none => i

/-- R130: the estimate, clamped to the lamps fitted. -/
def estimate (p n avg : Nat) : Nat := min ((avg + p / 2) / p) n

/-- R130: the confirmed count and its runs at a fine evaluation with estimate `e`. -/
def Lamp.confirm (e : Nat) (x : Lamp) : Lamp :=
  if e < x.k then
    if x.downRun + 1 < 3 then { x with downRun := x.downRun + 1, upRun := 0 }
    else { x with k := e, downRun := 0, upRun := 0 }
  else if x.k < e then
    if x.upRun + 1 < 5 then { x with upRun := x.upRun + 1, downRun := 0 }
    else { x with k := e, downRun := 0, upRun := 0 }
  else { x with downRun := 0, upRun := 0 }

/-- R131: the on-threshold of a technology. -/
def onThreshold : Technology → Nat
  | .filament => 150
  | .led => 25

/-- R131: coarse mode. -/
def coarse (s : State) (x : Lamp) : Bool := x.p = 0 || s.mea.supply = .low

/-- R129, R130, R131: avg, e, the evaluated switch count, and in fine mode k with its runs. -/
def Lamp.measured (s : State) (n : Nat) (count : BitVec 16) (i : Nat) (x : Lamp) : Lamp :=
  let avg := x.filtered count i
  let y := { x with avg := some avg, evalCount := some count }
  if x.p = 0 then y
  else
    let e := estimate x.p n avg
    let z := { y with e := some e }
    if coarse s x then z else z.confirm e

/-! ### Learning and the lamp state (R132, R133) -/

/-- R133: the learning count after an evaluation. -/
def learnCount (s : State) (lit : Bool) (x : Lamp) : Nat :=
  if s.mea.supply = .normal then if lit then x.learn + 1 else 0 else x.learn

/-- R132: the lamp state by the confirmed count. -/
def stateByCount (k n : Nat) : LampState := if k = n then .proven else if k = 0 then .out else .degraded

/-- R133: learning completes at this evaluation. -/
def completes (s : State) (lit : Bool) (x : Lamp) : Bool :=
  x.state = .learning && s.mea.supply = .normal && lit && 8 ≤ x.learn + 1

/-- R132, R133: the learning count, the reference at completion, and the lamp state. A learned p above 4095 is kept as
R133 gives it (DESIGN CHOICE, log 56). -/
def Lamp.staged (s : State) (n : Nat) (lit : Bool) (x : Lamp) : Lamp :=
  if x.state = .learning then
    if completes s lit x then
      { x with p := max 1 ((x.avg.getD 0) / n), learn := 0, state := stateByCount x.k n }
    else { x with learn := learnCount s lit x }
  else { x with state := stateByCount x.k n }

/-! ### Red proof, conditions, overcurrent (R135, R136, R138, R139) -/

/-- R135: the proof flag of a red circuit with floor `f`. -/
def Lamp.judgeProof (isCoarse lit : Bool) (f : Nat) (x : Lamp) : Bool :=
  if isCoarse then if !lit then false else if f ≤ x.k then true else x.proof
  else
    let e := x.e.getD 0
    if e < f then false else if f ≤ x.k then true else x.proof

/-- R139: the overcurrent run and condition. -/
def Lamp.judgeOvercurrent (n : Nat) (x : Lamp) : Lamp :=
  if x.p = 0 then x
  else
    let high : Bool := 3 * n * x.p / 2 < x.avg.getD 0
    if high = x.overcurrent then { x with overRun := 0 }
    else if x.overRun + 1 < 3 then { x with overRun := x.overRun + 1 }
    else { x with overRun := 0, overcurrent := high }

/-- R132, R135, R136, R139: what is judged with the values that result; `old` is the section before. -/
def Lamp.judged (x old : Lamp) (red isCoarse lit : Bool) (f n : Nat) : Lamp :=
  Lamp.judgeOvercurrent n
    { x with
      proof := if red then x.judgeProof isCoarse lit f else x.proof
      redOut := if red && x.k ≠ old.k then x.k < f else x.redOut
      degraded := x.state = LampState.degraded
      out := x.state = LampState.out && !red }

/-- R144: one more taken evaluation of a running retest count; at 3 it becomes idle. -/
def retestNext (r : Option Nat) : Option Nat := r.bind fun n => if n + 1 < 3 then some (n + 1) else none

/-- R144: the count reaches 3. -/
def retestDone (r : Option Nat) : Bool := r.any fun n => 3 ≤ n + 1

/-- The section after a taken evaluation, its cause and retest count apart. -/
def Lamp.evaluated (s : State) (c : Circuit) (count : BitVec 16) (r : Nat) (x : Lamp) : Lamp :=
  let rec_ := circuitRec s c
  let y := x.measured s rec_.lamps count (normalised s rec_.technology (rawCurrent s r))
  let lit : Bool := onThreshold rec_.technology ≤ y.avg.getD 0
  (y.staged s rec_.lamps lit).judged x (aspectOf c = .red) (coarse s x) lit
    (s.jds.group.get (groupOf c)).redFloor rec_.lamps

/-! ### Cause attribution (R141) -/

def causeOf (s : State) (c : Circuit) : Cause :=
  if (cableAt s c).openRun.confirmed then .cable
  else if cableState s c = .healthy then .lamp
  else .unknown

/-! ### What FLT hears (R138, R144) -/

/-- R138: the faults of one evaluation, in their order. -/
def lampFaults (c : Circuit) (x y : Lamp) (detail : Byte) (s : State) : State :=
  let j := Subject.circuit c
  let red := Subject.group (groupOf c)
  let s := if y.redOut && !x.redOut then toFlt (.raise .redOut red detail) s
    else if x.redOut && !y.redOut then clear .redOut red s else s
  let s := if x.degraded && !y.degraded then clear .lampDegraded j s else s
  let s := if x.out && !y.out then clear .lampOut j s else s
  let s := if y.degraded && !x.degraded then raise .lampDegraded j s else s
  let s := if y.out && !x.out then toFlt (.raise .lampOut j detail) s else s
  onChange x.overcurrent y.overcurrent .lampOvercurrent j s

/-- R144: the kinds found passed. -/
def lampPassed (c : Circuit) (y : Lamp) (s : State) : State :=
  let j := Subject.circuit c
  let s := if aspectOf c = .red && !y.redOut then toFlt (.passed .redOut (.group (groupOf c))) s else s
  let s := if !y.degraded then toFlt (.passed .lampDegraded j) s else s
  let s := if !y.out then toFlt (.passed .lampOut j) s else s
  if !y.overcurrent then toFlt (.passed .lampOvercurrent j) s else s

/-- R133: the LEARN-DONE report. -/
def learnDone (c : Circuit) (y : Lamp) (s : State) : State :=
  post .learnDone false (.circuit c) (be16 y.p ++ [b8 (circuitRec s c).lamps, b8 y.k]) s

/-- R141: an entry into OUT records its cause and asks CBL for a retest. -/
def enterOut (c : Circuit) (s : State) : State :=
  onCable c (fun z => { z with retestDue := true }) (onLamp c (fun z => { z with cause := some (causeOf s c) }) s)

/-- R128 to R144: a taken evaluation. LEARN-DONE (R133) is posted first, before SEQ hears of the proof and FLT of the
faults (DESIGN CHOICE, log 70). -/
def takeEvaluation (c : Circuit) (count : BitVec 16) (r : Nat) (s : State) : State :=
  let x := lampOf s c
  let y := x.evaluated s c count r
  let counts : Bool := s.mea.supply = .normal
  let entered : Bool := y.state = .out && x.state ≠ .out
  let detail := if entered then (causeOf s c).code else Config.detailWithoutCause s.uptime
  let t := onLamp c (fun _ => { y with retest := if counts then retestNext x.retest else x.retest }) s
  let t := if entered then enterOut c t else t
  let t := if x.state = .learning && y.state ≠ .learning then learnDone c y t else t
  let t := lampFaults c x y detail (if y.proof && !x.proof then heldCheck t else t)
  if counts && retestDone x.retest then lampPassed c y t else t

/-! ### The off-state check (R140) -/

/-- R140: the off limit of a technology. -/
def offLimit : Technology → Nat
  | .filament => 60
  | .led => 10

/-- R140: the off-check state and its runs. -/
def Lamp.offChecked (high : Bool) (x : Lamp) : Lamp :=
  match x.onWhenOff, high with
  | false, true =>
    if x.highRun + 1 < 2 then { x with highRun := x.highRun + 1, lowRun := 0 }
    else { x with highRun := 0, lowRun := 0, onWhenOff := true }
  | false, false => { x with highRun := 0 }
  | true, true => { x with lowRun := 0 }
  | true, false =>
    if x.lowRun + 1 < 3 then { x with lowRun := x.lowRun + 1 } else { x with lowRun := 0, onWhenOff := false }

/-- R140, R144: a taken off-check. -/
def takeOffCheck (c : Circuit) (r : Nat) (s : State) : State :=
  let x := lampOf s c
  let y := x.offChecked (offLimit (circuitRec s c).technology < rawCurrent s r)
  let t := onChange x.onWhenOff y.onWhenOff .onWhenOff (.circuit c)
    (onLamp c (fun _ => { y with offRetest := retestNext x.offRetest }) s)
  if retestDone x.offRetest && !y.onWhenOff then toFlt (.passed .onWhenOff (.circuit c)) t else t

/-! ### Taking a result (R128) -/

/-- R113, R128: the result of a current request. -/
def takeCurrent (x : Result) (c : Circuit) (s : State) : State :=
  if x.req.count ≠ countOf s c then s
  else if x.req.offCheck then if offEligible s c then takeOffCheck c x.count s else s
  else if evaluable s c then takeEvaluation c x.req.count x.count s else s

/-! ### LAMP-LEARN (R134) -/

/-- R134: the section as learning starts. -/
def Lamp.learnStart (x : Lamp) : Lamp :=
  { x with
    state := .learning
    p := 0
    e := none
    learn := 0
    downRun := 0
    upRun := 0
    overRun := 0
    overcurrent := false
    degraded := false
    out := false }

/-- R134: LAMP-LEARN is taken; the clears come in R138's order (DESIGN CHOICE, log 51). -/
def startLearning (c : Circuit) (s : State) : State :=
  lampFaults c (lampOf s c) (lampOf s c).learnStart noDetail (onLamp c Lamp.learnStart s)

/-- A request whose field names a fitted circuit: BAD-FIELD otherwise. -/
def withFitted (body : List Byte) (judge : Circuit → Judge) : Judge := fun s =>
  match index? 48 (byteAt body 0) with
  | some c => if s.jds.fitted c then judge c s else (.badField 1, s)
  | none => (.badField 1, s)

def judgeLearn (c : Circuit) : Judge := fun s =>
  if (lampOf s c).state = .learning then (.busy, s) else (.ok, settle (startLearning c s))

/-! ### The commands -/

/-- LAMP_LEARN (R134). -/
def execLampLearn (tag : Byte) (body : List Byte) (s : State) : Host.Outcome State Fault Refusal :=
  serve 0x29 tag body true (body.length = 1) (withFitted body judgeLearn) s

/-- LAMP_SETTLE_TIME_ELAPSED (R125): a closed circuit's settle time has run, and LMP places what it may. -/
def execLampSettleTimeElapsed (c : Circuit) (s : State) : Host.Outcome State Fault Refusal :=
  if evaluable s c then .next (conclude s) else .next s

/-- OFF_CHECK_ELIGIBILITY_TIME (R140): a circuit has become off-check eligible. -/
def execOffCheckEligibilityTime (c : Circuit) (s : State) : Host.Outcome State Fault Refusal :=
  if offEligible s c then .next (conclude s) else .next s

end Sys2Proof.Machine
end

