-- ==== Sys2Proof/Machine/Cables.lean ====
section
/-! DEFINITION. The Cable Test Unit: the steps of a test (R152 to R154), judgement (R155 to R158), the injector (R148,
R149), overdue (R162), the host controls (R163, R164), and CIRCUIT-READ (R107, R145, R165, R205). -/

namespace Sys2Proof.Machine

def CableState.code : CableState → Byte
  | .untested => 0 | .healthy => 1 | .suspect => 2 | .faulty => 3 | .suspended => 4

/-- The confirmed indication of each cause, OPEN in the lowest bit. -/
def Cable.confirmedByte (x : Cable) : Byte :=
  packByte [x.openRun.confirmed, x.shortRun.confirmed, x.insulationRun.confirmed, x.foreignRun.confirmed]

/-- R147: the CABLE-STATE report. -/
def cableReport (c : Circuit) (s : State) : State :=
  post .cableState false (.circuit c)
    [(cableState s c).code, (cableAt s c).confirmedByte, flagByte (cableAt s c).induced] s

/-! ### Judgement (R155 to R158) -/

/-- R155: FOREIGN shown. -/
def showsForeign (s : State) (vo : Nat) (vl : Option Nat) : Bool :=
  s.jds.timing.foreignOpen < vo && vl.any fun v => s.jds.timing.foreignLoaded < v

/-- R155: the induced flag. -/
def showsInduced (s : State) (vo : Nat) (vl : Option Nat) : Bool :=
  s.jds.timing.foreignOpen < vo && vl.any fun v => v ≤ s.jds.timing.foreignLoaded

/-- R156: OPEN shown. -/
def showsOpen (b : Nat) (l : Option Nat) : Bool := l.any fun l => l = 4095 || (0 < b && 4 * b < l)

/-- R156: SHORT shown. -/
def showsShort (b : Nat) (l : Option Nat) : Bool := l.any fun l => l = 0 || (0 < b && 4 * l < b)

/-- R156: a completion that teaches the baseline. -/
def learnsBaseline (b : Nat) (l : Option Nat) (foreign insulation : Bool) : Bool :=
  b = 0 && l.any (fun l => inRange l 1 4094) && !foreign && !insulation

/-- R157: a cause's runs after a completed test. -/
def CauseRun.move (shown : Bool) (x : CauseRun) : CauseRun :=
  if shown then
    let f := min (x.fail + 1) 2
    { fail := f, pass := 0, confirmed := x.confirmed || f = 2 }
  else
    let p := min (x.pass + 1) 3
    { fail := 0, pass := p, confirmed := x.confirmed && p ≠ 3 }

/-- R155 to R158, steps 1 to 3: the section after a completed test. -/
def Cable.completed (s : State) (t : Test) (leak leakLimit : Nat) (x : Cable) : Cable :=
  let foreign := showsForeign s t.vo t.vl
  let insulation : Bool := leakLimit < leak
  { x with
    openV := some t.vo
    loadedV := t.vl
    loop := t.loop
    leak := some leak
    induced := showsInduced s t.vo t.vl
    openRun := x.openRun.move (showsOpen x.baseline t.loop)
    shortRun := x.shortRun.move (showsShort x.baseline t.loop)
    insulationRun := x.insulationRun.move insulation
    foreignRun := x.foreignRun.move foreign
    lastTest := some s.stamp
    dueFrom := s.stamp
    retestDue := false
    overdue := false
    baseline := if learnsBaseline x.baseline t.loop foreign insulation then t.loop.getD 0 else x.baseline }

/-- R158, step 4: the cause faults in their order. -/
def cableFaults (c : Circuit) (x y : Cable) (s : State) : State :=
  let j := Subject.circuit c
  onChange x.foreignRun.confirmed y.foreignRun.confirmed .foreignVoltage j
    (onChange x.insulationRun.confirmed y.insulationRun.confirmed .cableInsulation j
      (onChange x.shortRun.confirmed y.shortRun.confirmed .cableShort j
        (onChange x.openRun.confirmed y.openRun.confirmed .cableOpen j s)))

/-- R158, steps 5 and 6. -/
def cableStateAfter (c : Circuit) (was : CableState) (s : State) : State :=
  let t := if cableState s c = was then s else cableReport c s
  if cableState s c = .suspect then onCable c (fun x => { x with retestDue := true }) t else t

/-- R153, R158: the LEAK result completes the test. -/
def completeTest (t : Test) (leak : Nat) (s : State) : State :=
  let c := t.circuit
  let x := cableAt s c
  let was := cableState s c
  let y := x.completed s t leak (circuitRec s c).leakLimit
  let u := (commandRelease true s).onCbl fun z => { z with test := none }
  cableStateAfter c was (drain eventFuel (cableFaults c x y (onCable c (fun _ => y) u)))

/-! ### The steps of a test (R152 to R154) -/

/-- The test in flight, changed. -/
def setTest (t : Test) (s : State) : State := s.onCbl fun x => { x with test := some t }

/-- R148: the injector connected, or its mode changed. -/
def connect (c : Circuit) (m : InjMode) (s : State) : State := s.onCbl fun x => { x with pos := .on c m }

/-- R153: the injection step begins. -/
def injection (t : Test) (s : State) : State :=
  setTest { t with step := .testSettle, placed := false, settle := some (Timer.start 50) } (connect t.circuit .test s)

/-- R152: the loaded step begins. -/
def loadedStep (t : Test) (s : State) : State :=
  setTest { t with step := .loadSettle, placed := false, settle := some (Timer.start 20) } (connect t.circuit .load s)

/-- R152, R153: a taken result moves the test on. -/
def testResult (t : Test) (r : Nat) (s : State) : State :=
  match t.step with
  | .openV =>
    if r ≤ s.jds.timing.foreignOpen then injection { t with vo := r } s else loadedStep { t with vo := r } s
  | .loadedV => injection { t with vl := some r } s
  | .loop => setTest { t with loop := some r, step := .leak, placed := false } s
  | .leak => completeTest t r s
  | .loadSettle | .testSettle => s

/-- R154: the result of a CBL request. -/
def takeCable (x : Result) (s : State) : State :=
  match s.cbl.test with
  | none => s
  | some t =>
    if t.placed && t.channel = some x.req.channel && x.req.count = countOf s t.circuit then testResult t x.count s
    else s

/-- The test in flight stands at this settle wait, which has passed. -/
def settled (step : TestStep) (s : State) : Option Test := s.cbl.test.filter fun t => t.step = step && timerDue t.settle

/-- The settle wait ends and the next request may be placed. -/
def nextStep (t : Test) (step : TestStep) (s : State) : State :=
  setTest { t with step := step, placed := false, settle := none } s

/-! ### The injector (R148, R149) -/

/-- R149: this release ends the stuck condition. -/
def endsStuck (s : State) (afterTest : Bool) : Bool := s.cbl.stuck && afterTest && s.cbl.release.isSome

/-- R97, R102: at this moment a command waits by which SEQ may give a group a newer command: an entry due, or an
evaluation that releases a HELD one (log 47). -/
def groupCommandWaits (s : State) : Bool :=
  s.pending.any fun i => match i with
    | .timetableEntryDue | .conversionComplete _ => true
    | _ => false

/-- R148, R149: the position sense reports the injector clear of `c`. OSW judges again (R99, R101); an entering circuit
that a waiting command of the same moment may make not wanted is judged once the moment's commands are taken, so that
it stays off where it does (R102, third pair; log 47). -/
def injectorFree (c : Circuit) (afterTest : Bool) (s : State) : State :=
  let ends := endsStuck s afterTest
  let t := s.onCbl fun x => { x with pos := .free, release := none, stuck := x.stuck && !ends }
  let t := onRelay c (fun r => { r with releaseAsked := false }) t
  let t := t.onOsw fun o => { o with freed := if (relayAt s c).entering && groupCommandWaits s then some c else none }
  oswAfter (if ends then clear .injectorStuck .none t else t)

/-! ### Overdue and host controls (R162 to R164) -/

/-- R162: the flag and its report. -/
def setOverdue (c : Circuit) (s : State) : State :=
  let t := onCable c (fun x => { x with overdue := true }) s
  post .testOverdue false (.circuit c) (b8 (cableAt t c).abandons :: uptime? t (cableAt t c).lastTest) t

def testOn (s : State) (c : Circuit) : Bool := s.cbl.test.any fun t => t.circuit = c

/-- R163. -/
def judgeTestNow (c : Circuit) : Judge := fun s =>
  if testOn s c then (.busy, s) else (.ok, settle (onCable c (fun x => { x with retestDue := true }) s))

/-- R164. -/
def judgeSuspend (c : Circuit) : Judge := fun s =>
  if (cableAt s c).suspended then (.ok, s)
  else
    let t := if testOn s c then abandon s else s
    (.ok, settle (cableReport c (onCable c (fun x => { x with suspended := true, overdue := false }) t)))

/-- R162, R164; CABLE-STATE is posted before TEST-OVERDUE (DESIGN CHOICE, log 57). -/
def judgeUnsuspend (c : Circuit) : Judge := fun s =>
  if (cableAt s c).suspended then
    let t := cableReport c (onCable c (fun x => { x with suspended := false }) s)
    (.ok, settle (if overdueNow t c then setOverdue c t else t))
  else (.ok, s)

/-! ### CIRCUIT-READ (R205) -/

def LampState.code : LampState → Byte
  | .learning => 0 | .unproven => 1 | .proven => 2 | .degraded => 3 | .out => 4

def relayBytes (s : State) (r : Relay) : List Byte :=
  [packByte [r.coil.commanded, r.coil.feedback, r.entering, r.releaseAsked], r.coil.state.code] ++
    be16 r.switchCount.toNat ++ uptime? s r.coil.lastChange

def evalCountBytes (s : State) (n : Option (BitVec 16)) : List Byte :=
  match n with
  | none => 0 :: be16 (Config.noCount s.uptime).toNat
  | some n => 1 :: be16 n.toNat

def lampBytes (s : State) (x : Lamp) : List Byte :=
  [x.state.code] ++ be16 x.p ++ word? x.avg ++ [byte? x.e, b8 x.k, b8 x.downRun, b8 x.upRun, b8 x.learn] ++
    evalCountBytes s x.evalCount ++
    [packByte [x.proof, x.redOut, x.degraded, x.out, x.overcurrent], b8 x.overRun, flagByte x.onWhenOff, b8 x.highRun,
      b8 x.lowRun, (x.cause.map Cause.code).getD 0xFF, byte? x.retest, byte? x.offRetest]

def CauseRun.bytes (r : CauseRun) : List Byte := [b8 r.fail, b8 r.pass, flagByte r.confirmed]

def cableBytes (s : State) (c : Circuit) : List Byte :=
  let x := cableAt s c
  [(cableState s c).code, packByte [x.suspended, x.induced, x.retestDue, x.overdue]] ++ word? x.openV ++
    word? x.loadedV ++ word? x.loop ++ word? x.leak ++ x.openRun.bytes ++ x.shortRun.bytes ++
    x.insulationRun.bytes ++ x.foreignRun.bytes ++ uptime? s x.lastTest ++ [b8 x.abandons] ++ be16 x.baseline ++
    [((s.cbl.test.filter fun t => t.circuit = c).map (·.step.code)).getD 0]

/-- R205. -/
def circuitFields (s : State) (c : Circuit) : List Byte :=
  number c :: relayBytes s (relayAt s c) ++ lampBytes s (lampOf s c) ++ cableBytes s c

def readCircuit (body : List Byte) (s : State) : Answer :=
  match index? 48 (byteAt body 0) with
  | some c => .gives (circuitFields s c)
  | none => .badField 1

/-! ### The commands -/

/-- CIRCUIT_READ (R107, R145, R165, R205). -/
def execCircuitRead (tag : Byte) (body : List Byte) (s : State) : Host.Outcome State Fault Refusal :=
  serve 0x28 tag body true (body.length = 1) (reads (readCircuit body)) s

/-- CABLE_TEST_NOW (R163). -/
def execCableTestNow (tag : Byte) (body : List Byte) (s : State) : Host.Outcome State Fault Refusal :=
  serve 0x2A tag body true (body.length = 1) (withFitted body judgeTestNow) s

/-- CABLE_SUSPEND (R164). -/
def execCableSuspend (tag : Byte) (body : List Byte) (s : State) : Host.Outcome State Fault Refusal :=
  serve 0x2B tag body true (body.length = 1) (withFitted body judgeSuspend) s

/-- CABLE_RESUME (R164). -/
def execCableResume (tag : Byte) (body : List Byte) (s : State) : Host.Outcome State Fault Refusal :=
  serve 0x2C tag body true (body.length = 1) (withFitted body judgeUnsuspend) s

/-- CABLE_ELIGIBILITY_TIME (R150): a relay has been OPEN for 500 ms. -/
def execCableEligibilityTime (c : Circuit) (s : State) : Host.Outcome State Fault Refusal :=
  if s.jds.fitted c && relayState s c = .open && longSince (relayAt s c).coil.lastChange 500 then .next (conclude s)
  else .next s

/-- CABLE_PERIOD_ELAPSED (R151): a circuit's test period has passed. -/
def execCablePeriodElapsed (c : Circuit) (s : State) : Host.Outcome State Fault Refusal :=
  if s.jds.fitted c && dueByPeriod s c then .next (conclude s) else .next s

/-- INJECTOR_LOAD_SETTLE (R152): the settle time of the loaded step has passed. -/
def execInjectorLoadSettle (s : State) : Host.Outcome State Fault Refusal :=
  match settled .loadSettle s with
  | some t => .next (conclude (nextStep t .loadedV s))
  | none => .next s

/-- INJECTOR_TEST_SETTLE (R153): the settle time of the injection step has passed. -/
def execInjectorTestSettle (s : State) : Host.Outcome State Fault Refusal :=
  match settled .testSettle s with
  | some t => .next (conclude (nextStep t (if (circuitRec s t.circuit).loopOn then .loop else .leak) s))
  | none => .next s

/-- INJECTOR_CLEAR (R148, R149): the position sense reports the injector clear. -/
def execInjectorClear (s : State) : Host.Outcome State Fault Refusal :=
  match s.cbl.pos with
  | .releasing c _ afterTest => .next (conclude (injectorFree c afterTest s))
  | _ => .next s

/-- INJECTOR_STUCK (R149): the release timer reaches 100 ms with the position still RELEASING. -/
def execInjectorStuck (s : State) : Host.Outcome State Fault Refusal :=
  match s.cbl.pos with
  | .releasing _ _ _ =>
    if timerDue s.cbl.release then
      .next (conclude (raise .injectorStuck .none (s.onCbl fun x => { x with release := none, stuck := true })))
    else .next s
  | _ => .next s

/-- TEST_OVERDUE (R162). -/
def execTestOverdue (c : Circuit) (s : State) : Host.Outcome State Fault Refusal :=
  if overdueNow s c then .next (finish (setOverdue c s)) else .next s

end Sys2Proof.Machine
end

