-- ==== Sys2Proof/Machine/Junction.lean ====
section
/-! DEFINITION. The Junction Description Store: JUNCTION-OPEN, JUNCTION-WRITE, JUNCTION-ACCEPT and JUNCTION-READ
(R2 to R21, R201). -/

namespace Sys2Proof.Machine

/-! ### Codes of the enumerated fields (R200) -/

def GroupKind.code : GroupKind → Byte | .unused => 0 | .vehicle => 1 | .pedestrian => 2
def Technology.code : Technology → Byte | .filament => 0 | .led => 1
def LoopCheck.code : LoopCheck → Byte | .on => 0 | .off => 1 | .byTechnology => 2
def DetKind.code : DetKind → Byte | .unused => 0 | .presence => 1 | .push => 2
def Response.code : Response → Byte | .report => 0 | .allRed => 1 | .dark => 2
def Colour.code : Colour → Byte | .red => 0 | .amber => 1 | .green => 2 | .any => 3
def DescState.code : DescState → Byte | .empty => 0 | .editing => 1 | .accepted => 2

def groupKindOf (n : Nat) : GroupKind := if n = 1 then .vehicle else if n = 2 then .pedestrian else .unused
def technologyOf (n : Nat) : Technology := if n = 0 then .filament else .led
def loopCheckOf (n : Nat) : LoopCheck := if n = 0 then .on else if n = 1 then .off else .byTechnology
def detKindOf (n : Nat) : DetKind := if n = 1 then .presence else if n = 2 then .push else .unused
def responseCode? (n : Nat) : Option Response :=
  if n = 0 then some .report else if n = 1 then some .allRed else if n = 2 then some .dark else none
def colourCode? (n : Nat) : Option Colour :=
  if n = 0 then some .red else if n = 1 then some .amber else if n = 2 then some .green
  else if n = 3 then some .any else none

/-- The fault kinds in the order of their codes (R200). -/
def allFaultKinds : List FaultKind :=
  [.conflict, .relayFailClosed, .relayFailOpen, .contactorFailClosed, .contactorFailOpen, .signalsOff, .redOut,
    .redProofTimeout, .lampDegraded, .lampOut, .lampOvercurrent, .onWhenOff, .cableOpen, .cableShort,
    .cableInsulation, .foreignVoltage, .injectorStuck, .measurementFault, .supplyLoss, .detectorStuckOn,
    .detectorSilent, .detectorChatter]

/-- The fault kind of a code. -/
def faultKind? (n : Nat) : Option FaultKind := if n = 0 then none else allFaultKinds[n - 1]?

/-! ### Writing a record (R5 to R12) -/

/-- R201: the width of a record's fields. -/
def recordWidth (kind : Nat) : Option Nat :=
  match kind with
  | 1 => some 7 | 2 => some 11 | 3 => some 2 | 4 => some 16 | 5 => some 2 | 6 => some 8 | 7 => some 13 | 8 => some 3
  | _ => none

/-- R201: the length judgement of JUNCTION-WRITE (log 27). -/
def junctionWriteFits (body : List Byte) : Bool :=
  match body with
  | [] => false
  | kind :: _ =>
    match recordWidth kind.toNat with
    | some w => body.length = w + 2
    | none => true

/-- R5: the outcome of a write once its fields are checked: the first bad item, or the record stored. -/
def checked (checks : List (Nat × Bool)) (clamped : Bool) (stored j : Jds) : Answer × Jds :=
  match firstBad checks with
  | some item => (.badField item, j)
  | none => (.done clamped [], stored)

/-- R6. `f` are the record's fields. -/
def writeGroup (g : Group) (f : List Byte) (j : Jds) : Answer × Jds :=
  let r : GroupRec :=
    { kind := groupKindOf (byteAt f 0), amber := byteAt f 1, redAmber := byteAt f 2, clearance := byteAt f 3
      floor := wordAt f 4, redFloor := byteAt f 6 }
  checked [(3, inRange (byteAt f 0) 0 2), (4, inRange r.amber 20 50), (5, inRange r.redAmber 0 30),
      (6, inRange r.clearance 0 250), (7, inRange r.floor 40 300), (8, inRange r.redFloor 1 4)]
    false { j with group := j.group.set g r } j

/-- R7: the test period is clamped to 1-60. -/
def writeCircuit (c : Circuit) (f : List Byte) (j : Jds) : Answer × Jds :=
  let r : CircuitRec :=
    { fitted := byteAt f 0 = 1, technology := technologyOf (byteAt f 1), lamps := byteAt f 2, reference := wordAt f 3
      loopCheck := loopCheckOf (byteAt f 5), baseline := wordAt f 6, leakLimit := wordAt f 8
      testPeriod := min (max (byteAt f 10) 1) 60 }
  checked [(3, inRange (byteAt f 0) 0 1), (4, inRange (byteAt f 1) 0 1), (5, inRange r.lamps 1 4),
      (6, inRange r.reference 0 4095), (7, inRange (byteAt f 5) 0 2), (8, inRange r.baseline 0 4095),
      (9, inRange r.leakLimit 50 4000)]
    (r.testPeriod ≠ byteAt f 10) { j with circuit := j.circuit.set c r } j

/-- R8. -/
def writeConflict (g : Group) (f : List Byte) (j : Jds) : Answer × Jds :=
  (.ok, { j with conflict := j.conflict.set g (setAt 16 f 0) })

/-- R8. -/
def writeIntergreen (g : Group) (f : List Byte) (j : Jds) : Answer × Jds :=
  checked ((allFin 16).map fun n => (n.val + 3, inRange (byteAt f n.val) 0 250))
    false { j with intergreen := j.intergreen.set g (Tab.ofFn fun n => byteAt f n.val) } j

/-- R9. -/
def writeStage (k : Stage) (f : List Byte) (j : Jds) : Answer × Jds :=
  (.ok, { j with stage := j.stage.set k (setAt 16 f 0) })

/-- R10: the debounce is clamped to 250; a stage-set bit beyond the twelfth is out of range (log 19). -/
def writeDetector (d : Detector) (f : List Byte) (j : Jds) : Answer × Jds :=
  let r : DetRec :=
    { kind := detKindOf (byteAt f 0), debounce := min (byteAt f 1) 250, demand := setAt 12 f 2, extend := setAt 12 f 4
      stuckLimit := byteAt f 6, silentLimit := byteAt f 7 }
  checked [(3, inRange (byteAt f 0) 0 2), (5, within 12 (wordAt f 2)),
      (6, within 12 (wordAt f 4) && (r.kind ≠ .push || wordAt f 4 = 0)), (7, inRange r.stuckLimit 1 60),
      (8, inRange r.silentLimit 1 240)]
    (r.debounce ≠ byteAt f 1) { j with detector := j.detector.set d r } j

/-- R11. -/
def writeTiming (f : List Byte) (j : Jds) : Answer × Jds :=
  let r : TimingRec :=
    { mains := byteAt f 0, nominal := wordAt f 1, startUpAllRed := byteAt f 3, commitLead := byteAt f 4
      redProofLimit := byteAt f 5, pullIn := byteAt f 6, dropOut := byteAt f 7, deadTime := byteAt f 8
      foreignOpen := wordAt f 9, foreignLoaded := wordAt f 11 }
  checked [(3, r.mains = 50 || r.mains = 60), (4, inRange r.nominal 1000 2600), (5, inRange r.startUpAllRed 30 200),
      (6, inRange r.commitLead 2 10), (7, inRange r.redProofLimit 5 50), (8, inRange r.pullIn 10 200),
      (9, inRange r.dropOut 10 200), (10, inRange r.deadTime 0 100), (11, inRange r.foreignOpen 100 2500),
      (12, inRange r.foreignLoaded 50 2500 && r.foreignLoaded ≤ r.foreignOpen)]
    false { j with timing := r } j

/-- R12: a kind, or a colour of a kind listed by colour, whose response is fixed. -/
def fixedResponse (k : FaultKind) (c : Colour) : Bool :=
  !k.configurable || (k.byColour && c ≠ .any && (responseRow k c).isNone)

/-- R12: the order in which a RESPONSE write is judged. -/
def writeResponse (f : List Byte) (j : Jds) : Answer × Jds :=
  match faultKind? (byteAt f 0) with
  | none => (.badField 3, j)
  | some k =>
    match colourCode? (byteAt f 1) with
    | none => (.badField 4, j)
    | some c =>
      if fixedResponse k c then (.no .fixedResponse, j)
      else
        match responseRow k c with
        | none => (.badField 4, j)
        | some i =>
          match responseCode? (byteAt f 2) with
          | none => (.badField 5, j)
          | some r => (.ok, { j with response := j.response.set i r })

/-- A record named by an index 1 to `n`: its write, or BAD-FIELD naming the index. -/
def indexed (n index : Nat) (write : Fin n → Jds → Answer × Jds) (j : Jds) : Answer × Jds :=
  match index? n index with
  | some i => write i j
  | none => (.badField 2, j)

/-- R5: kind, index, then the fields. -/
def writeRecord (body : List Byte) (j : Jds) : Answer × Jds :=
  let index := byteAt body 1
  let f := body.drop 2
  match byteAt body 0 with
  | 1 => indexed 16 index (fun g => writeGroup g f) j
  | 2 => indexed 48 index (fun c => writeCircuit c f) j
  | 3 => indexed 16 index (fun g => writeConflict g f) j
  | 4 => indexed 16 index (fun g => writeIntergreen g f) j
  | 5 => indexed 12 index (fun k => writeStage k f) j
  | 6 => indexed 24 index (fun d => writeDetector d f) j
  | 7 => if index = 0 then writeTiming f j else (.badField 2, j)
  | 8 => if index = 0 then writeResponse f j else (.badField 2, j)
  | _ => (.badField 1, j)

/-- R5: JUNCTION-WRITE. -/
def judgeWrite (body : List Byte) : Judge := fun s =>
  if s.jds.desc = .editing then
    let r := writeRecord body s.jds
    (r.1, s.onJds fun _ => r.2)
  else (.no .notOpen, s)

/-! ### Reading a record (R13, R201) -/

def GroupRec.bytes (r : GroupRec) : List Byte :=
  [r.kind.code, b8 r.amber, b8 r.redAmber, b8 r.clearance] ++ be16 r.floor ++ [b8 r.redFloor]

def CircuitRec.bytes (r : CircuitRec) : List Byte :=
  [flagByte r.fitted, r.technology.code, b8 r.lamps] ++ be16 r.reference ++ [r.loopCheck.code] ++ be16 r.baseline ++
    be16 r.leakLimit ++ [b8 r.testPeriod]

def DetRec.bytes (r : DetRec) : List Byte :=
  [r.kind.code, b8 r.debounce] ++ setBytes r.demand ++ setBytes r.extend ++ [b8 r.stuckLimit, b8 r.silentLimit]

def TimingRec.bytes (r : TimingRec) : List Byte :=
  [b8 r.mains] ++ be16 r.nominal ++ [b8 r.startUpAllRed, b8 r.commitLead, b8 r.redProofLimit, b8 r.pullIn,
    b8 r.dropOut, b8 r.deadTime] ++ be16 r.foreignOpen ++ be16 r.foreignLoaded

/-- R12: the pairs of the fourteen RESPONSE records, in order. -/
def responsePairs : Tab (FaultKind × Colour) 14 :=
  ⟨[(.relayFailClosed, .red), (.relayFailClosed, .amber), (.relayFailOpen, .amber), (.relayFailOpen, .green),
    (.lampDegraded, .any), (.lampOut, .any), (.lampOvercurrent, .any), (.onWhenOff, .red), (.onWhenOff, .amber),
    (.cableOpen, .any), (.cableShort, .any), (.cableInsulation, .any), (.foreignVoltage, .red),
    (.foreignVoltage, .amber)], rfl⟩

/-- The record's bytes, or the item that is out of range. -/
def recordBytes (kind index : Nat) (j : Jds) : Option (List Byte) :=
  match kind with
  | 1 => (index? 16 index).map fun g => (j.group.get g).bytes
  | 2 => (index? 48 index).map fun c => (j.circuit.get c).bytes
  | 3 => (index? 16 index).map fun g => setBytes (j.conflict.get g)
  | 4 => (index? 16 index).map fun g => (j.intergreen.get g).list.map b8
  | 5 => (index? 12 index).map fun k => setBytes (j.stage.get k)
  | 6 => (index? 24 index).map fun d => (j.detector.get d).bytes
  | 7 => if index = 0 then some j.timing.bytes else none
  | 8 => (index? 14 index).map fun i =>
      [b8 (responsePairs.get i).1.code, (responsePairs.get i).2.code, (j.response.get i).code]
  | _ => none

/-- R13: JUNCTION-READ. -/
def readRecord (body : List Byte) (s : State) : Answer :=
  if inRange (byteAt body 0) 1 8 then
    match recordBytes (byteAt body 0) (byteAt body 1) s.jds with
    | some l => .gives (s.jds.desc.code :: l)
    | none => .badField 2
  else .badField 1

/-! ### JUNCTION-OPEN (R4) -/

/-- R74: every debounce timer stops as DET stops serving. -/
def stopDebounce (s : State) : State :=
  s.onDet fun x => { x with record := x.record.map fun r => { r with timer := none } }

/-- R4, R74, R159, R160: the test in flight is abandoned and its circuit counts it, although R146 has JUNCTION-OPEN leave
every cable section as it is (DESIGN CHOICE between the two, log 68). -/
def judgeOpen : Judge := fun s =>
  if s.flt.mode = .dark || s.flt.mode = .unconfigured then
    let t := s.onJds fun j => { j with desc := .editing }
    let t := if s.flt.mode = .dark then changeMode .unconfigured (.request 0x01) t else t
    let t := abandon (t.onFlt fun f => { f with restartPermitted := false })
    (.ok, settle (lmpWatch (stopDebounce t)))
  else (.no .wrongMode, s)

/-! ### Acceptance checks (R15, R16) -/

/-- The subject bytes A and B of a failing check. -/
abbrev CheckSubject := Byte × Byte

/-- The first pair (g, n) in order that fails. -/
def firstPair (bad : Group → Group → Bool) : Option CheckSubject :=
  (allFin 16).findSome? fun g => ((allFin 16).find? (bad g)).map fun n => (number g, number n)

/-- R15, check 1. -/
def check1 (j : Jds) : Option CheckSubject :=
  firstPair fun g n => if g = n then j.conflicts g g else j.conflicts g n ≠ j.conflicts n g

/-- R15: the least intergreen of a losing group. -/
def leastIntergreen (r : GroupRec) : Nat :=
  match r.kind with
  | .vehicle => max 1 r.amber
  | .pedestrian => max 1 r.clearance
  | .unused => 1

/-- R15, check 2. -/
def check2 (j : Jds) : Option CheckSubject :=
  firstPair fun l n => j.conflicts l n && j.ig l n < leastIntergreen (j.group.get l)

/-- R16, check 3: what the kind requires of a circuit. -/
def fittedAsKind (j : Jds) (g : Group) (c : Circuit) : Bool :=
  if aspectOf c = .amber && (j.group.get g).kind = .pedestrian then !(j.circuit.get c).fitted
  else (j.circuit.get c).fitted

def check3 (j : Jds) : Option CheckSubject :=
  (allFin 16).findSome? fun g =>
    if (j.group.get g).kind = .unused then none
    else ((circuitsOf g).find? fun c => !fittedAsKind j g c).map fun c => (number c, 0)

/-- R16, check 4. -/
def check4 (j : Jds) : Option CheckSubject :=
  ((allFin 48).find? fun c => (j.circuit.get c).fitted && (j.group.get (groupOf c)).kind = .unused).map
    fun c => (number c, 0)

/-- R16, check 5: the stage's lowest group that is UNUSED or conflicts with another group of the stage. -/
def check5 (j : Jds) : Option CheckSubject :=
  (allFin 12).findSome? fun k =>
    let groups := (j.stage.get k).members
    (groups.find? fun g =>
      (j.group.get g).kind = .unused || groups.any fun n => n ≠ g && j.conflicts g n).map
      fun g => (number k, number g)

/-- R16, check 6. -/
def check6 (j : Jds) : Option CheckSubject :=
  (allFin 24).findSome? fun d =>
    let r := j.detector.get d
    if r.kind = .unused then none
    else ((r.demand.members ++ r.extend.members).find? fun k => (j.stage.get k).none?).map
      fun k => (number d, number k)

/-- R16, check 7. -/
def check7 (j : Jds) : Option CheckSubject :=
  ((allFin 16).find? fun g =>
    (j.group.get g).kind ≠ .unused &&
      !inRange (j.group.get g).redFloor 1 (j.circuit.get (redOf g)).lamps).map fun g => (number g, 0)

/-- R16, check 8. -/
def check8 (j : Jds) : Option CheckSubject :=
  if (allFin 12).any fun k => !(j.stage.get k).none? then none else some (0, 0)

/-- R14: the first failing check with its subject. -/
def failedCheck (j : Jds) : Option (Nat × CheckSubject) :=
  [(1, check1), (2, check2), (3, check3), (4, check4), (5, check5), (6, check6), (7, check7), (8, check8)].findSome?
    fun c => (c.2 j).map fun x => (c.1, x)

/-! ### What acceptance does (R17 to R21) -/

/-- R18: the lamp section of a circuit. The evaluated switch count is none, and the degraded, out and overcurrent
conditions are absent (DESIGN CHOICE, log 52). -/
def Lamp.accepted (r : CircuitRec) : Lamp :=
  if r.fitted then
    { state := if r.reference = 0 then .learning else .unproven, p := r.reference, k := r.lamps }
  else {}

/-- R19: the cable section of a circuit. -/
def Cable.accepted (now : Stamp) (r : CircuitRec) : Cable := { dueFrom := now, baseline := r.baseline }

/-- R20: the record of a detector; the contact is the input's own. -/
def Det1.accepted (now : Stamp) (r : DetRec) (x : Det1) : Det1 :=
  { contact := x.contact
    silentSince := if r.kind = .presence then some now else none
    timer := if r.kind ≠ .unused && x.contact then some (Timer.start r.debounce) else none }

/-- R18 to R20: the sections of the field jobs. -/
def acceptSections (s : State) : State :=
  let now := s.stamp
  ((s.onLmp fun _ => { lamp := Tab.ofFn fun c => Lamp.accepted (s.jds.circuit.get c) }).onCbl fun x =>
    { x with cable := Tab.ofFn fun c => Cable.accepted now (s.jds.circuit.get c) }).onDet fun x =>
      { record := Tab.ofFn fun d => Det1.accepted now (s.jds.detector.get d) (x.record.get d), intervalMs := 0 }

/-- R17: a VALID slot validated again. -/
def revalidate (p : Slot) (s : State) : State :=
  if validSlot s p then
    match descriptionError s (planAt s p) with
    | some e => onSlot p (fun x => { x with state := .invalid, error := some e }) s
    | none => s
  else s

/-- R17, R68: references to slots that have become INVALID are dropped. -/
def dropInvalid (s : State) : State :=
  let t := s.onPlans fun l =>
    { l with
      inForce := l.inForce.filter (validSlot s)
      pendingPlan := l.pendingPlan.filter (validSlot s) }
  if s.plans.inForce.isSome && t.plans.inForce = none then planChange s.plans.inForce none .description t else t

/-- R21: the kinds whose sections acceptance re-initialises. -/
def FaultKind.reinitialised : FaultKind → Bool
  | .redOut | .lampDegraded | .lampOut | .lampOvercurrent | .onWhenOff | .cableOpen | .cableShort | .cableInsulation
  | .foreignVoltage | .detectorStuckOn | .detectorSilent | .detectorChatter => true
  | _ => false

/-- R21: their entries become CLEARED, in list order; auto restart is not judged (log 35). -/
def acceptClears (s : State) : State :=
  (s.flt.list.filter fun e => e.kind.reinitialised && e.state ≠ .cleared).foldl
    (fun t e => clearEntry e.kind e.subject t) s

/-- R17 to R21: the effects of a passing acceptance, in the order of R14's reports. -/
def accept (s : State) : State :=
  let s := acceptSections (s.onJds fun j => { j with desc := .accepted })
  let s := enterDark .acceptance .acceptance s
  let s := evaluate (dropInvalid (forEach revalidate s))
  acceptClears (s.onSeq fun q => { q with demand := Tab.const 12 false })

/-- R14: JUNCTION-ACCEPT. -/
def judgeAccept : Judge := fun s =>
  if s.jds.desc = .editing then
    match failedCheck s.jds with
    | some (n, a, b) => (.refused .badField (b8 n) a b, s)
    | none => (.ok, settle (accept s))
  else (.no .notOpen, s)

/-! ### The commands -/

/-- JUNCTION_OPEN (R4). -/
def execJunctionOpen (tag : Byte) (body : List Byte) (s : State) : Host.Outcome State Fault Refusal :=
  serve 0x01 tag body true body.isEmpty judgeOpen s

/-- JUNCTION_WRITE (R5). -/
def execJunctionWrite (tag : Byte) (body : List Byte) (s : State) : Host.Outcome State Fault Refusal :=
  serve 0x02 tag body true (junctionWriteFits body) (judgeWrite body) s

/-- JUNCTION_ACCEPT (R14). -/
def execJunctionAccept (tag : Byte) (body : List Byte) (s : State) : Host.Outcome State Fault Refusal :=
  serve 0x03 tag body true body.isEmpty judgeAccept s

/-- JUNCTION_READ (R13). -/
def execJunctionRead (tag : Byte) (body : List Byte) (s : State) : Host.Outcome State Fault Refusal :=
  serve 0x04 tag body true (body.length = 2) (reads (readRecord body)) s

end Sys2Proof.Machine
end

