-- ==== Sys2Proof/Machine/Detectors.lean ====
section
/-! DEFINITION. The Detector Input Unit: debounce (R75), accepted activations and releases (R76 to R79), the monitors
(R81 to R85), DETECTOR-READ (R80), and their commands. -/

namespace Sys2Proof.Machine

def DetFault.code : DetFault → Byte | .none => 0 | .stuckOn => 1 | .silent => 2 | .chatter => 3

/-- The debounced state's code: ACTIVE 0, INACTIVE 1 (R73, R200). -/
def Det1.stateCode (x : Det1) : Byte := if x.active then 0 else 1

def Det1.conditions (x : Det1) : Byte := packByte [x.stuckOn, x.silent, x.chatter]

/-- A detector record, changed. -/
def onRec (d : Detector) (f : Det1 → Det1) (s : State) : State :=
  s.onDet fun x => { x with record := x.record.modify d f }

def recOf (s : State) (d : Detector) : Det1 := s.det.record.get d

/-- R84: the DETECTOR-STATE report. -/
def detReport (d : Detector) (s : State) : State :=
  post .detectorState false (.detector d) [(recOf s d).stateCode, (recOf s d).fault.code, (recOf s d).conditions] s

/-- R85: the stages a substituted detector demands have a held demand (R26). -/
def holdDetector (d : Detector) (s : State) : State :=
  if substituted s d then (s.jds.detector.get d).demand.members.foldl (fun t k => holdDemand k t) s else s

/-- A monitor's change of one condition: the record, what FLT hears, the held demands, the report (R84, R85; log 24).
DETECTOR-STATE comes after the reports that FLT posts for the change (DESIGN CHOICE, log 46). -/
def monitor (d : Detector) (f : Det1 → Det1) (tell : State → State) (s : State) : State :=
  detReport d (drain eventFuel (holdDetector d (tell (onRec d f s))))

/-- SEQ's answer to a change of a detector, after what the monitors post (DESIGN CHOICE, log 54), and the end of the
command. -/
def detDone (s : State) : State := conclude (seqEnd (seqReact s))

/-! ### Accepted changes (R76 to R79) -/

/-- R76: what SEQ shows as its current stage. -/
def shownStage (s : State) : Option Stage := if stageShown s then s.seq.current else none

/-- R76: the record at an accepted activation, before the monitors judge it. -/
def Det1.activated (s : State) (kind : DetKind) (x : Det1) : Det1 :=
  { x with
    active := true
    timer := none
    assertSeen := true
    captured := match shownStage s with | some k => .stage k | none => .noStage
    capturedTime := (shownStage s).bind fun _ => s.seq.elapsed.map fun ms => min (tenths ms) 65534
    activeSince := some s.stamp
    silentSince := if kind = .presence then some s.stamp else x.silentSince
    activations := satInc8 x.activations }

/-- R77, R30: the extension posting. -/
def extend (set : Flags 12) (s : State) : State :=
  match shownStage s with
  | some k => if set.get k then s.onSeq fun q => { q with gap := some 0 } else s
  | none => s

/-- R77: the postings of an activation. -/
def postings (d : Detector) (s : State) : State :=
  let r := s.jds.detector.get d
  extend r.extend (r.demand.members.foldl (fun t k => postDemand k t) s)

/-- R82: an activation ends the silent condition. -/
def endSilent (d : Detector) (s : State) : State :=
  if (recOf s d).silent then
    monitor d (fun x => { x with silent := false }) (clear .detectorSilent (.detector d)) s
  else s

/-- R83: an activation that brings the count to 9. -/
def judgeChatter (d : Detector) (s : State) : State :=
  if (recOf s d).activations = 9 && !(recOf s d).chatter then
    monitor d (fun x => { x with chatter := true }) (raise .detectorChatter (.detector d)) s
  else s

/-- R76, R77: an accepted activation: the record, the postings, the monitors with their reports, then SEQ's answer
(log 54). -/
def activation (d : Detector) (s : State) : State :=
  detDone (judgeChatter d (endSilent d (postings d (onRec d (Det1.activated s (s.jds.detKind d)) s))))

/-- R81: a release ends the stuck-on condition. -/
def endStuckOn (d : Detector) (s : State) : State :=
  if (recOf s d).stuckOn then
    monitor d (fun x => { x with stuckOn := false }) (clear .detectorStuckOn (.detector d)) s
  else s

/-- R79: an accepted release. -/
def release (d : Detector) (s : State) : State :=
  detDone (endStuckOn d (onRec d (fun x =>
    { x with active := false, timer := none, activeSince := none, releaseSeen := true }) s))

/-! ### Debounce (R75) -/

/-- R75: the debounce timer of a served detector has reached the debounce time. -/
def debounced (s : State) (d : Detector) : Bool := s.jds.served d && timerDue (recOf s d).timer

/-- R75: a change of the contact's level. -/
def inputChange (d : Detector) (closed : Bool) (s : State) : State :=
  let t := onRec d (fun x => { x with contact := closed }) s
  if !s.jds.served d then t
  else if closed = (recOf s d).active then onRec d (fun x => { x with timer := none }) t
  else if (s.jds.detector.get d).debounce = 0 then if closed then activation d t else release d t
  else onRec d (fun x => { x with timer := some (Timer.start (s.jds.detector.get d).debounce) }) t

/-! ### The interval end (R83) -/

/-- R83: one detector at the end of an interval, its counts alone. -/
def Det1.intervalEnd (x : Det1) : Det1 :=
  { x with quiet := if x.activations ≤ 8 then min (x.quiet + 1) 60 else 0, activations := 0 }

/-- R83: the chatter condition ends at the sixtieth quiet interval. -/
def intervalEnd (d : Detector) (s : State) : State :=
  if s.jds.served d then
    let t := onRec d Det1.intervalEnd s
    if (recOf t d).chatter && (recOf t d).quiet = 60 then
      monitor d (fun x => { x with chatter := false, quiet := 0 }) (clear .detectorChatter (.detector d)) t
    else t
  else s

/-! ### DETECTOR-READ (R80, R204) -/

/-- Captured stage: a number, 0 none, FFh absent. -/
def Captured.code : Captured → Byte | .absent => 0xFF | .noStage => 0 | .stage k => number k

def detBytes (s : State) (d : Detector) : List Byte :=
  let x := recOf s d
  [(s.jds.detector.get d).kind.code, x.stateCode, packByte [x.assertSeen, x.releaseSeen], x.captured.code] ++
    word? x.capturedTime ++ [x.fault.code, x.conditions, number d]

/-- R80: the latches after a read; those of a detector of stored kind UNUSED stay. In the first EDITING after a part
reset the read rewrites the latches too, where R73 has the records stay unchanged until the first acceptance (DESIGN
CHOICE, log 55). -/
def clearLatches (d : Detector) (s : State) : State :=
  if (s.jds.detector.get d).kind = .unused then s
  else onRec d (fun x => { x with assertSeen := x.active, releaseSeen := !x.active }) s

def judgeDetectorRead (body : List Byte) : Judge := fun s =>
  if byteAt body 0 = 0 then (.gives ((allFin 24).flatMap (detBytes s)), forEach clearLatches s)
  else
    match index? 24 (byteAt body 0) with
    | some d => (.gives (detBytes s d), clearLatches d s)
    | none => (.badField 1, s)

/-! ### The commands -/

/-- DETECTOR_READ (R80). -/
def execDetectorRead (tag : Byte) (body : List Byte) (s : State) : Host.Outcome State Fault Refusal :=
  serve 0x2D tag body true (body.length = 1) (judgeDetectorRead body) s

/-- DETECTOR_INPUT_CHANGE (R75): the sample that finds the change; how often one may come in a millisecond is not limited
(DESIGN CHOICE, log 45). -/
def execDetectorInputChange (d : Detector) (closed : Bool) (s : State) : Host.Outcome State Fault Refusal :=
  if (recOf s d).contact = closed then .next s else .next (inputChange d closed s)

/-- DETECTOR_ACTIVATION (R76). -/
def execDetectorActivation (d : Detector) (s : State) : Host.Outcome State Fault Refusal :=
  if debounced s d && !(recOf s d).active then .next (activation d s) else .next s

/-- DETECTOR_RELEASE (R79). -/
def execDetectorRelease (d : Detector) (s : State) : Host.Outcome State Fault Refusal :=
  if debounced s d && (recOf s d).active then .next (release d s) else .next s

/-- R81: the stuck-on limit has been reached. -/
def stuckOnDue (s : State) (d : Detector) : Bool :=
  s.jds.served d && (recOf s d).active && !(recOf s d).stuckOn &&
  (recOf s d).activeSince.any fun t => minutes (s.jds.detector.get d).stuckLimit ≤ t.elapsed

/-- DETECTOR_STUCK_ON (R81). -/
def execDetectorStuckOn (d : Detector) (s : State) : Host.Outcome State Fault Refusal :=
  if stuckOnDue s d then
    .next (detDone (monitor d (fun x => { x with stuckOn := true }) (raise .detectorStuckOn (.detector d)) s))
  else .next s

/-- R82: the silent limit has been reached. -/
def silentDue (s : State) (d : Detector) : Bool :=
  s.jds.detKind d = .presence && !(recOf s d).silent &&
  (recOf s d).silentSince.any fun t => minutes (s.jds.detector.get d).silentLimit ≤ t.elapsed

/-- DETECTOR_SILENT (R82). -/
def execDetectorSilent (d : Detector) (s : State) : Host.Outcome State Fault Refusal :=
  if silentDue s d then
    .next (detDone (monitor d (fun x => { x with silent := true }) (raise .detectorSilent (.detector d)) s))
  else .next s

/-- CHATTER_INTERVAL_END (R83): by detector number, FLT taking each clear before the next detector (DESIGN CHOICE,
log 53). -/
def execChatterIntervalEnd (s : State) : Host.Outcome State Fault Refusal :=
  if s.jds.accepted && 1000 ≤ s.det.intervalMs then
    .next (detDone (forEach intervalEnd (s.onDet fun x => { x with intervalMs := x.intervalMs - 1000 })))
  else .next s

end Sys2Proof.Machine
end

