-- ==== Sys2Proof/Machine/Line.lean ====
section
/-! DEFINITION. The commands of the serial line: frames and noise received, gap, break, link reset, LINE-READY, and the
end of a frame sent (R185 to R197). -/

namespace Sys2Proof.Machine

/-- FRAME_RECEIVED (R189): the characters received, in order; the line is ignored during a break (R196). -/
def execFrameReceived (chars : List RxChar) (s : State) : Host.Outcome State Fault Refusal :=
  if s.lnk.inBreak then .next s else .next (finish (chars.foldl (fun t c => rxChar c t) s))

/-- R190: the line has been idle for more than four character times inside a frame (log 26). -/
def gapDue (l : Lnk) : Bool := l.rx.state ≠ .waitMarker && !l.inBreak && 40000000 < l.idle * l.rate.baud

/-- GAP_TIMEOUT (R190). -/
def execGapTimeout (s : State) : Host.Outcome State Fault Refusal :=
  if gapDue s.lnk then
    .next (s.onLnk fun l => { l with counters := l.counters.onGap, rx := Rx.waiting, idle := 0 })
  else .next s

/-- BREAK_RECOGNISED (R190, R196): the frame being received is discarded without a count. -/
def execBreakRecognised (s : State) : Host.Outcome State Fault Refusal :=
  if s.lnk.inBreak then .next s else .next (s.onLnk fun l => { l with inBreak := true, rx := Rx.waiting, idle := 0 })

/-- LINK_RESET (R196): the end of a break. -/
def execLinkReset (s : State) : Host.Outcome State Fault Refusal :=
  if s.lnk.inBreak then .next (s.onLnk Lnk.reset) else .next s

/-- LINE_READY_CHANGE (R193). -/
def execLineReadyChange (asserted : Bool) (s : State) : Host.Outcome State Fault Refusal :=
  .next (finish (s.onLnk fun l => { l with lineReady := asserted }))

/-- R193: the last character of the frame has been sent (log 26). -/
def sentDue (l : Lnk) : Bool := l.tx.any fun x => l.rate.holds x.elapsed x.wire.length

/-- FRAME_SENT (R193). -/
def execFrameSent (s : State) : Host.Outcome State Fault Refusal :=
  if sentDue s.lnk then .next (finish (s.onLnk Lnk.sent)) else .next s

/-- NOISE (R190): a byte other than the marker in WAIT-MARKER. -/
def execNoise (b : Byte) (s : State) : Host.Outcome State Fault Refusal :=
  if !s.lnk.inBreak && s.lnk.rx.state = .waitMarker && b ≠ marker then .next (rxChar (.byte b) s) else .next s

end Sys2Proof.Machine
end

