-- ==== Sys2Proof/Machine/Measure.lean ====
section
/-! DEFINITION. The Measurement Engine's own readings (R115 to R121), the delivery of results (R110, R113), and
MEASURE-SET and MEASURE-READ (R117, R123). -/

namespace Sys2Proof.Machine

/-- R119: MEASUREMENT-FAULT follows the two conditions together, from what they were to what they are. -/
def measurementFault (wasOffset wasRef : Bool) (s : State) : State :=
  onChange (wasOffset || wasRef) (s.mea.offCond || s.mea.refCond) .measurementFault .none s

/-- R116, R118: a bad run up to 3 and a good run up to 10 under a condition: the runs and the condition after. -/
def runsAfter (good : Bool) (bad goodRun : Nat) (cond : Bool) : Nat × Nat × Bool :=
  if good then
    let g := min (goodRun + 1) 10
    (0, g, cond && g ≠ 10)
  else
    let b := min (bad + 1) 3
    (b, 0, cond || b = 3)

/-- R116: an OFFSET reading while the bypass is off. -/
def Mea.offsetReading (r : Nat) (m : Mea) : Mea :=
  let (b, g, c) := runsAfter (r ≤ 100) m.offBad m.offGood m.offCond
  { m with
    lastOffset := some r
    measured := if r ≤ 100 then r else m.measured
    offBad := b
    offGood := g
    offCond := c }

/-- R116, R117: the delivery of an OFFSET reading; one made void by the bypass is not judged (log 30). -/
def takeOffset (r : Nat) (s : State) : State :=
  let t := s.onMea fun m => { m with offVoid := false }
  if s.mea.bypass.isSome || s.mea.offVoid then t
  else measurementFault s.mea.offCond s.mea.refCond (t.onMea (Mea.offsetReading r))

/-- R118: a REF reading. -/
def Mea.refReading (r : Nat) (m : Mea) : Mea :=
  let (b, g, c) := runsAfter (inRange r 2007 2089) m.refBad m.refGood m.refCond
  { m with lastRef := some r, refBad := b, refGood := g, refCond := c }

def takeRef (r : Nat) (s : State) : State :=
  measurementFault s.mea.offCond s.mea.refCond (s.onMea (Mea.refReading r))

/-- R120: the supply state of a reading. -/
def supplyOf (nominal r : Nat) : SupplyState :=
  if r < nominal / 2 then .absent else if r < 4 * nominal / 5 then .low else .normal

/-- R120, R121: a SUPPLY reading. -/
def Mea.supplyReading (nominal r : Nat) (m : Mea) : Mea :=
  let st := supplyOf nominal r
  let a := if st = .absent then min (m.supAbsent + 1) 3 else 0
  let n := if st = .normal then min (m.supNormal + 1) 10 else 0
  { m with
    s := r
    supply := st
    supAbsent := a
    supNormal := n
    lossCond := if a = 3 then true else if n = 10 then false else m.lossCond }

/-- R120, R121, R135: the reading, the proof flags of circuits no longer evaluable, SUPPLY-LOSS. -/
def takeSupply (r : Nat) (s : State) : State :=
  let t := lmpWatch (s.onMea (Mea.supplyReading s.jds.timing.nominal r))
  onChange s.mea.lossCond t.mea.lossCond .supplyLoss .none t

/-! ### Delivery (R110, R113) -/

/-- R113: a result goes to its channel's reader. -/
def deliver (x : Result) (s : State) : State :=
  match x.req.channel with
  | .current c => takeCurrent x c s
  | .voltage _ | .loop _ | .leak _ => takeCable x s
  | .offset => takeOffset x.count s
  | .ref => takeRef x.count s
  | .supply => takeSupply x.count s

/-- The request a CONVERTING slot holds. -/
def SlotContent.converting? : SlotContent → Option Req
  | .converting q => some q
  | _ => none

/-- R109: an input outside 0 to 4095 reads the nearer end. -/
def countOfInput (input : Int) : Nat := min input.toNat 4095

/-- R110: how long ago, in microseconds, the window ended (log 10). -/
def Conv.excess (v : Conv) : Nat := v.elapsed - v.window

/-- R111, R112: what follows a delivery: FLT takes what it was handed, the slot's owner places its next request, the
engine grants among what waits, and only then the others place what has come due (log 9). -/
def afterDelivery (v : Conv) (s : State) : State :=
  measures v.excess (grant v.excess (ownerPlaces v.slot (drain eventFuel s)))

/-- R110: the window ends: the slot becomes EMPTY and the result is delivered. -/
def endWindow (v : Conv) (input : Int) (s : State) : State :=
  let t := s.onMea fun m => { m.put v.slot .empty with conv := none }
  afterDelivery v
    (match (s.mea.slot v.slot).converting? with
    | some q => deliver ⟨q, countOfInput input, uptimeBefore s v.excess⟩ t
    | none => t)

/-! ### The diagnostic schedule (R115) -/

/-- R115: a 200 ms boundary, the first of five being a whole second. -/
def Mea.boundary (m : Mea) : Mea :=
  { m with
    dueSupply := true
    dueRef := m.dueRef || m.diagPhase = 0
    dueOffset := m.dueOffset || (m.diagPhase = 0 && m.bypass.isNone)
    diagMs := m.diagMs - 200
    diagPhase := m.diagPhase + 1 }

/-! ### MEASURE-SET (R117) -/

/-- R117: a WAITING OFFSET request is withdrawn and a CONVERTING one made void. -/
def dropOffset (s : State) : State :=
  match s.mea.diag with
  | .waiting q => if q.channel = .offset then withdraw .diag s else s
  | .converting q => if q.channel = .offset then s.onMea fun m => { m with offVoid := true } else s
  | .empty => s

/-- R117: the bypass is turned on, or takes a new value. -/
def bypassOn (v : Nat) (s : State) : State :=
  measurementFault s.mea.offCond s.mea.refCond ((dropOffset s).onMea fun m =>
    { m with bypass := some v, dueOffset := false, offBad := 0, offGood := 0, offCond := false })

/-- R117: the bypass is turned off. -/
def bypassOff (s : State) : State :=
  s.onMea fun m => { m with bypass := none, offBad := 0, offGood := 0, offCond := false }

def judgeMeasureOn (body : List Byte) : Judge := fun s =>
  if byteAt body 0 = 1 then
    let v := min (wordAt body 1) 4095
    let answer := Answer.done (v ≠ wordAt body 1) []
    if s.mea.bypass = some v then (answer, s) else (answer, settle (bypassOn v s))
  else (.badField 1, s)

def judgeMeasureOff : Judge := fun s =>
  if s.mea.bypass.isSome then (.ok, settle (bypassOff s)) else (.ok, s)

/-! ### MEASURE-READ (R123, R206; log 21) -/

def Channel.bytes : Channel → List Byte
  | .current c => [number c, number c]
  | .voltage c => [b8 (c.val + 49), number c]
  | .loop c => [97, number c]
  | .leak c => [98, number c]
  | .offset => [99, 0]
  | .ref => [100, 0]
  | .supply => [101, 0]

/-- An EMPTY slot shows channel 0 and circuit 0 (DESIGN CHOICE, log 21). -/
def SlotContent.bytes : SlotContent → List Byte
  | .empty => [0, 0, 0]
  | .waiting q => 1 :: q.channel.bytes
  | .converting q => 2 :: q.channel.bytes

/-- The slot of the conversion in flight: its position in the order in which R206 gives the slots (DEDUCED, log 21). -/
def MSlot.code : MSlot → Byte | .proof => 0 | .routine => 1 | .cbl => 2 | .diag => 3
def SupplyState.code : SupplyState → Byte | .absent => 0 | .low => 1 | .normal => 2

def convBytes (s : State) (v : Option Conv) : List Byte :=
  match v with
  | none => 0xFF :: 0 :: be32 (Config.noUptime s.uptime).toNat ++ word? none
  | some v => v.slot.code :: 1 :: be32 v.start.toNat ++ be16 v.window

def measureFields (s : State) : List Byte :=
  let m := s.mea
  be16 (offsetInUse s) ++ [b8 m.measured] ++ word? m.lastOffset ++ [flagByte m.bypass.isSome] ++ word? m.bypass ++
    [b8 m.offBad, b8 m.offGood, flagByte m.offCond] ++
    word? m.lastRef ++ [b8 m.refBad, b8 m.refGood, flagByte m.refCond] ++
    be16 m.s ++ [m.supply.code, b8 m.supAbsent, b8 m.supNormal, flagByte m.lossCond] ++
    m.proof.bytes ++ m.routine.bytes ++ m.cbl.bytes ++ m.diag.bytes ++ convBytes s m.conv ++
    [if m.lastCbl then 1 else 0, packByte [m.dueSupply, m.dueRef, m.dueOffset]]

/-! ### The commands -/

/-- MEASURE_SET_ON (R117): every MEASURE-SET whose selector is not off (log 5). -/
def execMeasureSetOn (tag : Byte) (body : List Byte) (s : State) : Host.Outcome State Fault Refusal :=
  serve 0x32 tag body (byteAt body 0 ≠ 0) (body.length = 3) (judgeMeasureOn body) s

/-- MEASURE_SET_OFF (R117). -/
def execMeasureSetOff (tag : Byte) (body : List Byte) (s : State) : Host.Outcome State Fault Refusal :=
  serve 0x32 tag body (byteAt body 0 = 0) (body.length = 3) judgeMeasureOff s

/-- MEASURE_READ (R123). -/
def execMeasureRead (tag : Byte) (body : List Byte) (s : State) : Host.Outcome State Fault Refusal :=
  serve 0x33 tag body true body.isEmpty (reads fun t => .gives (measureFields t)) s

/-- R115: some diagnostic channel is due and the slot is free to ask for it. -/
def diagWaits (s : State) : Bool :=
  s.mea.diag = .empty && (s.mea.dueSupply || s.mea.dueRef || s.mea.dueOffset)

/-- DIAGNOSTIC_DUE (R115): a boundary of the schedule; at the part reset's own boundary, which set the flags, what is
due is placed (log 8). -/
def execDiagnosticDue (s : State) : Host.Outcome State Fault Refusal :=
  if 200 ≤ s.mea.diagMs then .next (conclude (s.onMea Mea.boundary))
  else if diagWaits s then .next (conclude s)
  else .next s

/-- CONVERSION_COMPLETE (R110): the window of the conversion in flight ends with this input, in counts. -/
def execConversionComplete (input : Int) (s : State) : Host.Outcome State Fault Refusal :=
  match s.mea.conv with
  | none => .next s
  | some v => if v.window ≤ v.elapsed then .next (finish (endWindow v input s)) else .next s

end Sys2Proof.Machine
end

