-- ==== Sys2Proof/Machine/OutputEvents.lean ====
section
/-! DEFINITION. The commands of the Output Switch Unit: feedbacks and transition limits (R87 to R92), the dead time
(R99) and the SIGNALS-OFF input (R104). -/

namespace Sys2Proof.Machine

/-- What follows a change of a relay or of the contactor. -/
def oswDone (s : State) : State := conclude (oswAfter s)

/-- RELAY_FEEDBACK_CHANGE (R87): the raw level of an auxiliary contact changes. -/
def execRelayFeedbackChange (input : Contact) (closed : Bool) (s : State) : Host.Outcome State Fault Refusal :=
  match input with
  | .relay c => .next (onRelay c (fun r => { r with coil := r.coil.input closed }) s)
  | .contactor => .next (s.onOsw fun o => { o with contactor := o.contactor.input closed })

/-- RELAY_FEEDBACK_ACCEPTED (R87, R89): a relay's feedback has held its new level for 5 ms. -/
def execRelayFeedbackAccepted (c : Circuit) (s : State) : Host.Outcome State Fault Refusal :=
  let k := (relayAt s c).coil
  if k.settled then .next (oswDone (relayTo c (k.feed k.raw s.stamp) s)) else .next s

/-- RELAY_TRANSITION_TIMEOUT (R89): a relay's transition timer expires. -/
def execRelayTransitionTimeout (c : Circuit) (s : State) : Host.Outcome State Fault Refusal :=
  let k := (relayAt s c).coil
  if timerDue k.timer then .next (oswDone (relayTo c k.expire s)) else .next s

/-- CONTACTOR_FEEDBACK_ACCEPTED (R87, R92): the contactor's feedback has held its new level for 5 ms. -/
def execContactorFeedbackAccepted (s : State) : Host.Outcome State Fault Refusal :=
  let k := s.osw.contactor
  if k.settled then .next (oswDone (contactorTo (k.feed k.raw s.stamp) s)) else .next s

/-- CONTACTOR_TRANSITION_TIMEOUT (R92): the contactor's transition timer expires. -/
def execContactorTransitionTimeout (s : State) : Host.Outcome State Fault Refusal :=
  let k := s.osw.contactor
  if timerDue k.timer then .next (oswDone (contactorTo k.expire s)) else .next s

/-- DEAD_TIME_ELAPSED (R99): a relay has been OPEN for the dead time. -/
def execDeadTimeElapsed (c : Circuit) (s : State) : Host.Outcome State Fault Refusal :=
  if relayState s c = .open && longSince (relayAt s c).coil.lastChange s.jds.timing.deadTime then .next (oswDone s)
  else .next s

/-- SIGNALS_OFF_INPUT_CHANGE (R104): the raw level changes; a return to the debounced level cancels the change. -/
def execSignalsOffInputChange (asserted : Bool) (s : State) : Host.Outcome State Fault Refusal :=
  if s.osw.signalsOffRaw = asserted then .next s
  else
    .next (s.onOsw fun o =>
      { o with
        signalsOffRaw := asserted
        signalsOffDebounce := if asserted = o.signalsOff then none else some 0 })

/-- R104: the input has held its new level for 20 ms. -/
def signalsOffSettled (s : State) : Bool := s.osw.signalsOffDebounce.any fun ms => 20 ≤ ms

/-- The debounced SIGNALS-OFF state takes its new level. -/
def acceptSignalsOff (level : Bool) (s : State) : State :=
  s.onOsw fun o => { o with signalsOff := level, signalsOffDebounce := none }

/-- SIGNALS_OFF_ASSERTED (R104). -/
def execSignalsOffAsserted (s : State) : Host.Outcome State Fault Refusal :=
  if signalsOffSettled s && s.osw.signalsOffRaw && !s.osw.signalsOff then
    .next (conclude (raise .signalsOff .none (acceptSignalsOff true s)))
  else .next s

/-- SIGNALS_OFF_RELEASED (R104). -/
def execSignalsOffReleased (s : State) : Host.Outcome State Fault Refusal :=
  if signalsOffSettled s && !s.osw.signalsOffRaw && s.osw.signalsOff then
    .next (conclude (clear .signalsOff .none (acceptSignalsOff false s)))
  else .next s

end Sys2Proof.Machine
end

