-- ==== Sys2Proof/Machine/PlanRequests.lean ====
section
/-! DEFINITION. The plan, schedule and clock requests and the running clock (R55 to R72, R202). -/

namespace Sys2Proof.Machine

def SlotState.code : SlotState → Byte | .empty => 0 | .editing => 1 | .valid => 2 | .invalid => 3
def PlanMode.code : PlanMode → Byte | .fixedTime => 0 | .demand => 1

/-- The close error's check, entry and group, zeros for none (R202). -/
def closeErrorBytes (e : Option CloseError) : List Byte :=
  match e with
  | none => [0, 0, 0]
  | some e => [b8 e.check, number? e.entry, number? e.group]

/-- A request whose first field names a slot: BAD-FIELD outside 1-4. -/
def withSlot (body : List Byte) (judge : Slot → Judge) : Judge := fun s =>
  match index? 4 (byteAt body 0) with
  | some p => judge p s
  | none => (.badField 1, s)

/-- R58, R60: a slot not in EDITING is refused. -/
def whileEditing (p : Slot) (judge : Judge) : Judge := fun s =>
  if (planAt s p).state = .editing then judge s else (.no .notOpen, s)

/-! ### PLAN-OPEN (R57) -/

def judgePlanOpen (p : Slot) : Judge := fun s =>
  if s.plans.inForce = some p || s.plans.pendingPlan = some p then (.no .slotInUse, s)
  else if (allFin 4).any fun q => q ≠ p && (planAt s q).state = .editing then (.no .otherSlotOpen, s)
  else (.ok, onSlot p (fun _ => { state := .editing }) s)

/-! ### PLAN-WRITE (R58, R59) -/

/-- R202: the row of the table that a PLAN-WRITE body belongs to is named by its write kind (log 5). -/
def writeKind (body : List Byte) : Nat := byteAt body 1

/-- A plan write once its fields are checked. -/
def checkedPlan (p : Slot) (checks : List (Nat × Bool)) (f : PlanSlot → PlanSlot) : Judge := fun s =>
  match firstBad checks with
  | some item => (.badField item, s)
  | none => (.ok, onSlot p f s)

/-- R58: a HEADER write; a write kind other than the three is refused before its fields. -/
def writeHeader (body : List Byte) (p : Slot) : Judge :=
  checkedPlan p [(2, writeKind body = 1), (3, byteAt body 2 ≠ 0), (4, inRange (byteAt body 3) 0 1)]
    fun x => { x with id := byteAt body 2, mode := if byteAt body 3 = 0 then .fixedTime else .demand }

/-- The stage an entry takes from a SEQUENCE write of length `n`; entries above it keep theirs. -/
def sequenceEntry (body : List Byte) (n : Nat) (e : Entry) (x : PlanEntry) : PlanEntry :=
  if e.val < n then { x with stage := (index? 12 (byteAt body (e.val + 3))).getD x.stage } else x

/-- R58: a SEQUENCE write. -/
def writeSequence (body : List Byte) (p : Slot) : Judge :=
  let n := byteAt body 2
  checkedPlan p
    ((3, inRange n 1 12) :: (List.range n).map fun i => (i + 4, inRange (byteAt body (i + 3)) 1 12))
    fun x => { x with length := n, entries := Tab.ofFn fun e => sequenceEntry body n e (x.entries.get e) }

/-- R59: an ENTRY-TIMING write; its always-call flag has no listed refusal (log 18). -/
def writeTimings (body : List Byte) (p : Slot) : Judge := fun s =>
  match index? 12 (byteAt body 2) with
  | none => (.badField 3, s)
  | some e =>
    checkedPlan p
      [(4, inRange (wordAt body 3) 40 600), (5, inRange (wordAt body 5) 40 1200), (6, inRange (byteAt body 7) 5 255),
        (7, inRange (wordAt body 8) 40 1200)]
      (fun x =>
        { x with
          entries := x.entries.modify e fun y =>
            { y with
              minGreen := wordAt body 3
              maxGreen := wordAt body 5
              gap := byteAt body 7
              fixed := wordAt body 8
              always := openFlag (byteAt body 10) } })
      s

/-! ### PLAN-CLOSE and PLAN-READ (R60 to R62) -/

/-- R61: the slot as the checks leave it. -/
def closedSlot (s : State) (p : PlanSlot) : PlanSlot :=
  match closeError s p with
  | none => { p with state := .valid, error := none }
  | some e => { p with state := .invalid, error := some e }

def judgePlanClose (p : Slot) : Judge := fun s =>
  let x := (planAt s p).clamp
  let y := closedSlot s x
  (.done (x ≠ planAt s p) (y.state.code :: closeErrorBytes y.error), evaluate (onSlot p (fun _ => y) s))

def PlanEntry.bytes (e : PlanEntry) : List Byte :=
  [number e.stage] ++ be16 e.minGreen ++ be16 e.maxGreen ++ [b8 e.gap] ++ be16 e.fixed ++ [flagByte e.always]

def readPlan (p : Slot) (s : State) : Answer :=
  let x := planAt s p
  .gives (x.state.code :: closeErrorBytes x.error ++ [b8 x.id, x.mode.code, b8 x.length] ++
    x.entries.list.flatMap PlanEntry.bytes ++
    [packByte [s.plans.inForce = some p, s.plans.pendingPlan = some p, s.plans.override = some p]])

/-! ### PLAN-SELECT (R66) -/

def judgePlanSelect (body : List Byte) : Judge := fun s =>
  let n := byteAt body 0
  if inRange n 0 4 then (.ok, evaluate (s.onPlans fun l => { l with override := index? 4 n })) else (.badField 1, s)

/-! ### The schedule (R70) -/

/-- R70: SCHEDULE-WRITE. Of several fields out of range the reply names the first (DESIGN CHOICE, log 65). -/
def judgeScheduleWrite (body : List Byte) : Judge := fun s =>
  match index? 16 (byteAt body 0) with
  | none => (.badField 1, s)
  | some e =>
    match firstBad [(4, inRange (byteAt body 3) 0 23), (5, inRange (byteAt body 4) 0 59)], index? 4 (byteAt body 5) with
    | some item, _ => (.badField item, s)
    | none, none => (.badField 6, s)
    | none, some p =>
      let x : SchedEntry :=
        { used := openFlag (byteAt body 1), days := flagsOf 7 (byteAt body 2), hours := byteAt body 3
          minutes := byteAt body 4, slot := p }
      (.ok, evaluate (s.onPlans fun l => { l with schedule := l.schedule.set e x }))

def SchedEntry.bytes (e : SchedEntry) : List Byte :=
  [flagByte e.used, packByte e.days.list, b8 e.hours, b8 e.minutes, number e.slot]

def readSchedule (s : State) : Answer :=
  .gives (s.plans.schedule.list.flatMap SchedEntry.bytes ++
    [number? (scheduleChoice s), number? (s.plans.lastChoice.map (·.1)), number? (s.plans.lastChoice.map (·.2))])

/-! ### The clock (R69) -/

/-- R69: the second after. -/
def Tod.next (t : Tod) : Tod :=
  if t.seconds < 59 then { t with seconds := t.seconds + 1 }
  else if t.minutes < 59 then { t with seconds := 0, minutes := t.minutes + 1 }
  else if t.hours < 23 then { t with seconds := 0, minutes := 0, hours := t.hours + 1 }
  else ⟨⟨(t.day.val + 1) % 7, Nat.mod_lt _ (by decide)⟩, 0, 0, 0⟩

/-- R69: CLOCK-SET. Of several fields out of range the reply names the first (DESIGN CHOICE, log 65). -/
def judgeClockSet (body : List Byte) : Judge := fun s =>
  match index? 7 (byteAt body 0) with
  | none => (.badField 1, s)
  | some d =>
    match firstBad [(2, inRange (byteAt body 1) 0 23), (3, inRange (byteAt body 2) 0 59),
      (4, inRange (byteAt body 3) 0 59)] with
    | some item => (.badField item, s)
    | none =>
      (.ok, evaluate (s.onPlans fun l =>
        { l with clock := some ⟨d, byteAt body 1, byteAt body 2, byteAt body 3⟩, clockMs := 0 }))

def readClock (s : State) : Answer :=
  match s.plans.clock with
  | none => .gives [0, 0xFF, 0xFF, 0xFF, 0xFF]
  | some t => .gives [1, number t.day, b8 t.hours, b8 t.minutes, b8 t.seconds]

/-- R65, R69: one second of the running clock. -/
def clockTick (t : Tod) (s : State) : State :=
  let u := s.onPlans fun l => { l with clock := some t.next, clockMs := l.clockMs - 1000 }
  if t.next.seconds = 0 then evaluate u else u

/-! ### The commands -/

/-- PLAN_OPEN (R57). -/
def execPlanOpen (tag : Byte) (body : List Byte) (s : State) : Host.Outcome State Fault Refusal :=
  serve 0x08 tag body true (body.length = 1) (withSlot body judgePlanOpen) s

/-- PLAN_WRITE_HEADER (R58): every PLAN-WRITE whose write kind is not SEQUENCE or ENTRY-TIMING (log 5). -/
def execPlanWriteHeader (tag : Byte) (body : List Byte) (s : State) : Host.Outcome State Fault Refusal :=
  serve 0x09 tag body (writeKind body ≠ 2 && writeKind body ≠ 3)
    (2 ≤ body.length && (writeKind body ≠ 1 || body.length = 4))
    (withSlot body fun p => whileEditing p (writeHeader body p)) s

/-- PLAN_WRITE_SEQUENCE (R58). -/
def execPlanWriteSequence (tag : Byte) (body : List Byte) (s : State) : Host.Outcome State Fault Refusal :=
  serve 0x09 tag body (writeKind body = 2) (3 ≤ body.length && body.length = byteAt body 2 + 3)
    (withSlot body fun p => whileEditing p (writeSequence body p)) s

/-- PLAN_WRITE_ENTRY_TIMING (R59). -/
def execPlanWriteEntryTiming (tag : Byte) (body : List Byte) (s : State) : Host.Outcome State Fault Refusal :=
  serve 0x09 tag body (writeKind body = 3) (body.length = 11)
    (withSlot body fun p => whileEditing p (writeTimings body p)) s

/-- PLAN_CLOSE (R60, R61). -/
def execPlanClose (tag : Byte) (body : List Byte) (s : State) : Host.Outcome State Fault Refusal :=
  serve 0x0A tag body true (body.length = 1) (withSlot body fun p => whileEditing p (judgePlanClose p)) s

/-- PLAN_READ (R62). -/
def execPlanRead (tag : Byte) (body : List Byte) (s : State) : Host.Outcome State Fault Refusal :=
  serve 0x0B tag body true (body.length = 1) (withSlot body fun p => reads (readPlan p)) s

/-- PLAN_SELECT (R66). -/
def execPlanSelect (tag : Byte) (body : List Byte) (s : State) : Host.Outcome State Fault Refusal :=
  serve 0x0C tag body true (body.length = 1) (judgePlanSelect body) s

/-- SCHEDULE_WRITE (R70). -/
def execScheduleWrite (tag : Byte) (body : List Byte) (s : State) : Host.Outcome State Fault Refusal :=
  serve 0x0D tag body true (body.length = 6) (judgeScheduleWrite body) s

/-- SCHEDULE_READ (R70). -/
def execScheduleRead (tag : Byte) (body : List Byte) (s : State) : Host.Outcome State Fault Refusal :=
  serve 0x0E tag body true body.isEmpty (reads readSchedule) s

/-- CLOCK_SET (R69). -/
def execClockSet (tag : Byte) (body : List Byte) (s : State) : Host.Outcome State Fault Refusal :=
  serve 0x0F tag body true (body.length = 4) (judgeClockSet body) s

/-- CLOCK_READ (R69). -/
def execClockRead (tag : Byte) (body : List Byte) (s : State) : Host.Outcome State Fault Refusal :=
  serve 0x10 tag body true body.isEmpty (reads readClock) s

/-- CLOCK_SECOND (R69): a second of the running clock has passed. -/
def execClockSecond (s : State) : Host.Outcome State Fault Refusal :=
  match s.plans.clock with
  | none => .next s
  | some t => if 1000 ≤ s.plans.clockMs then .next (finish (clockTick t s)) else .next s

end Sys2Proof.Machine
end

