-- ==== Sys2Proof/Machine/Reads.lean ====
section
/-! DEFINITION. The requests of the fault list and of the link: FAULT-LIST-READ, FAULT-CLEAR, REPORT-CONTROL,
LINK-STATUS (R182, R195, R198, R206), and the answer to an unknown kind (R192, R199). -/

namespace Sys2Proof.Machine

/-! ### The fault list (R182, R206) -/

def Subject.num : Subject → Byte
  | .none => 0 | .group g => number g | .circuit c => number c | .detector d => number d

def FState.code : FState → Byte | .active => 0 | .cleared => 1 | .pendingRetest => 2

def FEntry.bytes (e : FEntry) : List Byte :=
  [b8 e.kind.code, e.subject.num, e.state.code] ++ be32 e.first.toNat ++ be32 e.last.toNat ++ [b8 e.occurrences]

/-- R206: the entries from the `n`th, at most nineteen. Where none is returned, the byte of the first entry returned is
still `n` (DESIGN CHOICE, log 63). -/
def listFields (s : State) (n : Nat) : List Byte :=
  [b8 s.flt.list.length, flagByte s.flt.overflow, b8 n] ++
    ((s.flt.list.drop (n - 1)).take 19).flatMap FEntry.bytes

def readFaults (body : List Byte) (s : State) : Answer :=
  match body with
  | [] => .gives (listFields s 1)
  | b :: _ => if inRange b.toNat 1 32 then .gives (listFields s b.toNat) else .badField 1

/-- R174: the subject of a kind with a number, if it is in range. -/
def subject? (k : FaultKind) (n : Nat) : Option Subject :=
  match k with
  | .conflict | .redOut | .redProofTimeout => (index? 16 n).map .group
  | .relayFailClosed | .relayFailOpen | .lampDegraded | .lampOut | .lampOvercurrent | .onWhenOff | .cableOpen
  | .cableShort | .cableInsulation | .foreignVoltage => (index? 48 n).map .circuit
  | .detectorStuckOn | .detectorSilent | .detectorChatter => (index? 24 n).map .detector
  | .contactorFailClosed | .contactorFailOpen | .signalsOff | .injectorStuck | .measurementFault | .supplyLoss =>
    if n = 0 then some .none else none

/-- R178, R182: a taken FAULT-CLEAR: the list, the overflow, and auto restart when the overflow becomes clear. -/
def takeFaultClear (l : List FEntry) (s : State) : State :=
  let t := (setList l s).onFlt fun f => { f with overflow := false }
  settle (if s.flt.overflow then autoRestart t else t)

/-- R182: FAULT-CLEAR of one entry (log 40). -/
def judgeClearOne (body : List Byte) : Judge := fun s =>
  match faultKind? (byteAt body 0) with
  | none => (.badField 1, s)
  | some k =>
    match subject? k (byteAt body 1) with
    | none => (.badField 2, s)
    | some j =>
      match findEntry k j s with
      | none => (.refused .badField (Config.noEntryItem s.uptime) 0 0, s)
      | some e =>
        if e.state = .cleared then (.ok, takeFaultClear (s.flt.list.filter fun x => !x.is k j) s)
        else (.no .stillActive, s)

/-- R182, R206: FAULT-CLEAR of all. -/
def judgeClearAll (body : List Byte) : Judge := fun s =>
  if byteAt body 1 = 0 then (.ok, takeFaultClear (s.flt.list.filter fun x => x.state ≠ .cleared) s)
  else (.badField 2, s)

/-! ### The link (R195, R198) -/

/-- R195: the enable has no listed refusal (log 18). -/
def judgeReportControl (body : List Byte) : Judge := fun s =>
  if within 10 (wordAt body 1) then
    (.ok, s.onLnk fun l => { l with reporting := openFlag (byteAt body 0), kinds := setAt 10 body 1 })
  else (.badField 2, s)

def linkFields (l : Lnk) : List Byte :=
  be16 l.counters.noise ++ be16 l.counters.aborted ++ be16 l.counters.gap ++ be16 l.counters.format ++
    be16 l.counters.check ++ be16 l.counters.overrun ++ be16 l.lost ++
    [b8 l.requests.length, b8 l.replies.length, b8 l.reports.length, flagByte l.reporting] ++ setBytes l.kinds ++
    [b8 l.rate.code]

/-- R198: the count of replies is the queue's before this reply is placed (DESIGN CHOICE, log 60). -/
def judgeLinkStatus (body : List Byte) : Judge := fun s =>
  if byteAt body 0 = 0 then (.gives (linkFields s.lnk), s) else (.badField 1, s)

/-- R198, as `judgeLinkStatus` (log 60); then every counter is 0. -/
def judgeLinkZero : Judge := fun s => (.gives (linkFields s.lnk), s.onLnk fun l => { l with counters := {} })

/-! ### The commands -/

/-- FAULT_LIST_READ (R182). -/
def execFaultListRead (tag : Byte) (body : List Byte) (s : State) : Host.Outcome State Fault Refusal :=
  serve 0x30 tag body true (body.length ≤ 1) (reads (readFaults body)) s

/-- FAULT_CLEAR (R182): of one entry. -/
def execFaultClear (tag : Byte) (body : List Byte) (s : State) : Host.Outcome State Fault Refusal :=
  serve 0x31 tag body (byteAt body 0 ≠ 0) (body.length = 2) (judgeClearOne body) s

/-- FAULT_CLEAR_ALL (R182): fault kind 0 (log 5). -/
def execFaultClearAll (tag : Byte) (body : List Byte) (s : State) : Host.Outcome State Fault Refusal :=
  serve 0x31 tag body (byteAt body 0 = 0) (body.length = 2) (judgeClearAll body) s

/-- REPORT_CONTROL (R195). -/
def execReportControl (tag : Byte) (body : List Byte) (s : State) : Host.Outcome State Fault Refusal :=
  serve 0x34 tag body true (body.length = 3) (judgeReportControl body) s

/-- LINK_STATUS_READ (R198): every LINK-STATUS whose selector is not read-and-zero (log 5). -/
def execLinkStatusRead (tag : Byte) (body : List Byte) (s : State) : Host.Outcome State Fault Refusal :=
  serve 0x35 tag body (byteAt body 0 ≠ 1) (body.length = 1) (judgeLinkStatus body) s

/-- LINK_STATUS_READ_AND_ZERO (R198). -/
def execLinkStatusReadAndZero (tag : Byte) (body : List Byte) (s : State) : Host.Outcome State Fault Refusal :=
  serve 0x35 tag body (byteAt body 0 = 1) (body.length = 1) judgeLinkZero s

/-- UNKNOWN_REQUEST (R192, R199): reply kind FFh. -/
def execUnknownRequest (kind tag : Byte) (body : List Byte) (s : State) : Host.Outcome State Fault Refusal :=
  if takes s kind tag body && !isRequestKind kind then
    .next (finish (reply 0xFF tag (.no .unknownRequest) (takeRequest s)))
  else .next s

end Sys2Proof.Machine
end

