-- ==== Sys2Proof/Machine/SeqEvents.lean ====
section
/-! DEFINITION. The commands that are the Stage Sequencer's timers and limits (R29 to R33, R38, R42 to R45, R49,
R53). Each acts only when its moment has been reached (log 1). -/

namespace Sys2Proof.Machine

/-- MINIMUM_GREEN_EXPIRY (R29, R48): the elapsed timer reaches the minimum green. -/
def execMinimumGreenExpiry (s : State) : Host.Outcome State Fault Refusal :=
  if s.seq.state = .stage && s.seq.substate = some .minimum && minReached s then .next (conclude (minimumExpires s))
  else .next s

/-- GAP_EXPIRY (R30, R32): the gap timer reaches the entry's gap. -/
def execGapExpiry (s : State) : Host.Outcome State Fault Refusal :=
  if gapExpired s && endDecided s then .next (conclude (seqEnd s)) else .next s

/-- MAXIMUM_GREEN_REACHED (R31, R32): the maximum timer reaches the entry's maximum green. -/
def execMaximumGreenReached (s : State) : Host.Outcome State Fault Refusal :=
  if maxReached s && endDecided s then .next (conclude (seqEnd s)) else .next s

/-- FIXED_DURATION_REACHED (R33): the elapsed timer reaches the later of the fixed duration and the minimum green. -/
def execFixedDurationReached (s : State) : Host.Outcome State Fault Refusal :=
  if fixedReached s && endDecided s then .next (conclude (seqEnd s)) else .next s

/-- FLOOR_WAIT_REACHED (R49): in ALL-RED the elapsed timer reaches the floor wait. -/
def execFloorWaitReached (s : State) : Host.Outcome State Fault Refusal :=
  if s.seq.state = .stage && s.flt.mode = .allRed && floorReached s then .next (conclude (terminate s)) else .next s

/-- COMMIT_LEAD_EXPIRY (R38): the commit lead expires. -/
def execCommitLeadExpiry (s : State) : Host.Outcome State Fault Refusal :=
  if s.seq.state = .commit && timerDue s.seq.lead then .next (conclude (leadExpires s)) else .next s

/-- TIMETABLE_ENTRY_DUE (R42, R43): the first PENDING entry whose offset has been reached (log 31). -/
def execTimetableEntryDue (s : State) : Host.Outcome State Fault Refusal :=
  match dueEntry s with
  | some e => if s.seq.state = .interstage then .next (conclude (reachEntry e s)) else .next s
  | none => .next s

/-- R44: the timeout raised for a HELD entry. -/
def raiseTimeout (e : TtEntry) (s : State) : State :=
  match unproven s e.group with
  | some g => raise .redProofTimeout (.group g) s
  | none => s

/-- RED_PROOF_TIMEOUT (R44): a HELD entry reaches the red-proof limit. -/
def execRedProofTimeout (s : State) : Host.Outcome State Fault Refusal :=
  match timedOut s with
  | some e => if s.seq.state = .interstage then .next (conclude (raiseTimeout e s)) else .next s
  | none => .next s

/-- INTERSTAGE_END (R45). -/
def execInterstageEnd (s : State) : Host.Outcome State Fault Refusal :=
  if interstageOver s then .next (conclude (endInterstage s)) else .next s

/-- START_UP_ALL_RED_EXPIRY (R53). -/
def execStartUpAllRedExpiry (s : State) : Host.Outcome State Fault Refusal :=
  if s.seq.state = .startAllRed && timerDue s.seq.allRed then .next (conclude (startUpEnds s)) else .next s

end Sys2Proof.Machine
end

