-- ==== Sys2Proof/Machine/Time.lean ====
section
/-! DEFINITION. Part reset (R2, R197 and each block's own values), and one millisecond of the part's timebase, which is
what the step does when no command waits (log 2). -/

namespace Sys2Proof.Machine

/-! ### Part reset -/

/-- A coil at part reset with the level its contact shows; a closed contact starts its debounce (R87; log 7). -/
def Coil.atReset (raw : Bool) : Coil := { raw := raw, debounce := if raw then some 0 else none }

/-- R197: the POWER-UP report. -/
def powerUp (r : Rate) : Report := ⟨.powerUp, false, 0, .none, 0, [b8 r.code]⟩

/-- A part reset: every block's values after it; the input pins keep their levels, the straps are read (log 7). A break
in progress is forgotten: the receiver hears the line again (DESIGN CHOICE, log 62). -/
def partReset (rate1 rate0 : Bool) (s : State) : State :=
  { pending := s.pending
    det := { record := Tab.ofFn fun d => { contact := (recOf s d).contact } }
    osw :=
      { relay := Tab.ofFn fun c => { coil := Coil.atReset (relayAt s c).coil.raw }
        contactor := Coil.atReset s.osw.contactor.raw
        signalsOffRaw := s.osw.signalsOffRaw
        signalsOffDebounce := if s.osw.signalsOffRaw then some 0 else none }
    lnk := { rate := rateOf rate1 rate0, reports := [powerUp (rateOf rate1 rate0)], lineReady := s.lnk.lineReady } }

/-- PART_RESET (R2). -/
def execPartReset (rate1 rate0 : Bool) (s : State) : Host.Outcome State Fault Refusal :=
  .next (partReset rate1 rate0 s)

/-! ### One millisecond -/

/-- A stage timer, whose 0.1 s count stops at 65534 (R22). -/
def stageMs (ms : Nat) : Nat := min (ms + 1) 6553400

def Seq.tick (held : Bool) (q : Seq) : Seq :=
  { q with
    elapsed := q.elapsed.map stageMs
    gap := q.gap.map fun ms => if held then 0 else stageMs ms
    maximum := q.maximum.map stageMs
    lead := q.lead.map Timer.tick
    allRed := q.allRed.map Timer.tick
    start := q.start.map Stamp.tick
    leg := q.leg.map (·.map Stamp.tick) }

def Plans.tick (p : Plans) : Plans := { p with clockMs := if p.clock.isSome then p.clockMs + 1 else p.clockMs }

def Det1.tick (x : Det1) : Det1 :=
  { x with
    timer := x.timer.map Timer.tick
    activeSince := x.activeSince.map Stamp.tick
    silentSince := x.silentSince.map Stamp.tick }

/-- With the description not ACCEPTED the chatter interval stands still (R74), and the elapsed counts of active since and
silent since run on, read by nothing (DESIGN CHOICE, log 44). -/
def Det.tick (accepted : Bool) (d : Det) : Det :=
  { record := d.record.map Det1.tick, intervalMs := if accepted then d.intervalMs + 1 else d.intervalMs }

def Coil.tick (k : Coil) : Coil :=
  { k with
    lastChange := k.lastChange.map Stamp.tick
    timer := k.timer.map Timer.tick
    debounce := k.debounce.map (· + 1) }

def Osw.tick (o : Osw) : Osw :=
  { o with
    relay := o.relay.map fun r => { r with coil := r.coil.tick }
    contactor := o.contactor.tick
    signalsOffDebounce := o.signalsOffDebounce.map (· + 1) }

def Mea.tick (m : Mea) : Mea :=
  { m with
    conv := m.conv.map fun v => { v with elapsed := v.elapsed + 1000 }
    diagMs := m.diagMs + 1 }

def Cbl.tick (x : Cbl) : Cbl :=
  { x with
    cable := x.cable.map fun y => { y with lastTest := y.lastTest.map Stamp.tick, dueFrom := y.dueFrom.tick }
    release := x.release.map Timer.tick
    test := x.test.map fun t => { t with settle := t.settle.map Timer.tick } }

def Lnk.tick (l : Lnk) : Lnk :=
  { l with
    tx := l.tx.map fun x => { x with elapsed := x.elapsed + 1000 }
    idle := if l.rx.state = .waitMarker then l.idle else l.idle + 1000 }

/-- One millisecond: the uptime, every elapsed count and every running timer. What a limit reached does is the
business of its command (log 2, log 37). -/
def tick (s : State) : State :=
  { s with
    uptime := s.uptime + 1
    seq := s.seq.tick (gapHeld s)
    plans := s.plans.tick
    det := s.det.tick s.jds.accepted
    osw := s.osw.tick
    mea := s.mea.tick
    cbl := s.cbl.tick
    lnk := s.lnk.tick }

/-- R102, third pair: the commands of this moment are all taken, and a circuit whose judgement waited for them is judged
(log 47). -/
def endMoment (s : State) : State :=
  if s.osw.freed.isSome then conclude (oswAfter (s.onOsw fun o => { o with freed := none })) else s

/-- No command waits: the moment ends, and one millisecond passes. -/
def idle (s : State) : State := tick (endMoment s)

end Sys2Proof.Machine
end

