-- ==== Sys2Proof/Machine/Dispatch.lean ====
section
/-! DEFINITION. The meaning of every command: one arm per constructor of `Instr`, each one call. -/

namespace Sys2Proof.Machine

def exec (i : Instr) (s : State) : Host.Outcome State Fault Refusal :=
  match i with
  | .partReset rate1 rate0 => Sys2Proof.Machine.execPartReset rate1 rate0 s
  | .junctionOpen tag body => Sys2Proof.Machine.execJunctionOpen tag body s
  | .junctionWrite tag body => Sys2Proof.Machine.execJunctionWrite tag body s
  | .junctionAccept tag body => Sys2Proof.Machine.execJunctionAccept tag body s
  | .junctionRead tag body => Sys2Proof.Machine.execJunctionRead tag body s
  | .planOpen tag body => Sys2Proof.Machine.execPlanOpen tag body s
  | .planWriteHeader tag body => Sys2Proof.Machine.execPlanWriteHeader tag body s
  | .planWriteSequence tag body => Sys2Proof.Machine.execPlanWriteSequence tag body s
  | .planWriteEntryTiming tag body => Sys2Proof.Machine.execPlanWriteEntryTiming tag body s
  | .planClose tag body => Sys2Proof.Machine.execPlanClose tag body s
  | .planRead tag body => Sys2Proof.Machine.execPlanRead tag body s
  | .planSelect tag body => Sys2Proof.Machine.execPlanSelect tag body s
  | .scheduleWrite tag body => Sys2Proof.Machine.execScheduleWrite tag body s
  | .scheduleRead tag body => Sys2Proof.Machine.execScheduleRead tag body s
  | .clockSet tag body => Sys2Proof.Machine.execClockSet tag body s
  | .clockRead tag body => Sys2Proof.Machine.execClockRead tag body s
  | .restart tag body => Sys2Proof.Machine.execRestart tag body s
  | .resume tag body => Sys2Proof.Machine.execResume tag body s
  | .goAllRed tag body => Sys2Proof.Machine.execGoAllRed tag body s
  | .goDark tag body => Sys2Proof.Machine.execGoDark tag body s
  | .hold tag body => Sys2Proof.Machine.execHold tag body s
  | .releaseHold tag body => Sys2Proof.Machine.execReleaseHold tag body s
  | .advance tag body => Sys2Proof.Machine.execAdvance tag body s
  | .demandInsert tag body => Sys2Proof.Machine.execDemandInsert tag body s
  | .statusRead tag body => Sys2Proof.Machine.execStatusRead tag body s
  | .circuitRead tag body => Sys2Proof.Machine.execCircuitRead tag body s
  | .lampLearn tag body => Sys2Proof.Machine.execLampLearn tag body s
  | .cableTestNow tag body => Sys2Proof.Machine.execCableTestNow tag body s
  | .cableSuspend tag body => Sys2Proof.Machine.execCableSuspend tag body s
  | .cableResume tag body => Sys2Proof.Machine.execCableResume tag body s
  | .detectorRead tag body => Sys2Proof.Machine.execDetectorRead tag body s
  | .faultListRead tag body => Sys2Proof.Machine.execFaultListRead tag body s
  | .faultClear tag body => Sys2Proof.Machine.execFaultClear tag body s
  | .faultClearAll tag body => Sys2Proof.Machine.execFaultClearAll tag body s
  | .measureSetOn tag body => Sys2Proof.Machine.execMeasureSetOn tag body s
  | .measureSetOff tag body => Sys2Proof.Machine.execMeasureSetOff tag body s
  | .measureRead tag body => Sys2Proof.Machine.execMeasureRead tag body s
  | .reportControl tag body => Sys2Proof.Machine.execReportControl tag body s
  | .linkStatusRead tag body => Sys2Proof.Machine.execLinkStatusRead tag body s
  | .linkStatusReadAndZero tag body => Sys2Proof.Machine.execLinkStatusReadAndZero tag body s
  | .unknownRequest kind tag body => Sys2Proof.Machine.execUnknownRequest kind tag body s
  | .frameReceived chars => Sys2Proof.Machine.execFrameReceived chars s
  | .gapTimeout => Sys2Proof.Machine.execGapTimeout s
  | .breakRecognised => Sys2Proof.Machine.execBreakRecognised s
  | .linkReset => Sys2Proof.Machine.execLinkReset s
  | .lineReadyChange asserted => Sys2Proof.Machine.execLineReadyChange asserted s
  | .frameSent => Sys2Proof.Machine.execFrameSent s
  | .clockSecond => Sys2Proof.Machine.execClockSecond s
  | .minimumGreenExpiry => Sys2Proof.Machine.execMinimumGreenExpiry s
  | .gapExpiry => Sys2Proof.Machine.execGapExpiry s
  | .maximumGreenReached => Sys2Proof.Machine.execMaximumGreenReached s
  | .fixedDurationReached => Sys2Proof.Machine.execFixedDurationReached s
  | .floorWaitReached => Sys2Proof.Machine.execFloorWaitReached s
  | .commitLeadExpiry => Sys2Proof.Machine.execCommitLeadExpiry s
  | .timetableEntryDue => Sys2Proof.Machine.execTimetableEntryDue s
  | .redProofTimeout => Sys2Proof.Machine.execRedProofTimeout s
  | .interstageEnd => Sys2Proof.Machine.execInterstageEnd s
  | .startUpAllRedExpiry => Sys2Proof.Machine.execStartUpAllRedExpiry s
  | .detectorInputChange d closed => Sys2Proof.Machine.execDetectorInputChange d closed s
  | .detectorActivation d => Sys2Proof.Machine.execDetectorActivation d s
  | .detectorRelease d => Sys2Proof.Machine.execDetectorRelease d s
  | .detectorStuckOn d => Sys2Proof.Machine.execDetectorStuckOn d s
  | .detectorSilent d => Sys2Proof.Machine.execDetectorSilent d s
  | .chatterIntervalEnd => Sys2Proof.Machine.execChatterIntervalEnd s
  | .relayFeedbackChange input closed => Sys2Proof.Machine.execRelayFeedbackChange input closed s
  | .relayFeedbackAccepted c => Sys2Proof.Machine.execRelayFeedbackAccepted c s
  | .relayTransitionTimeout c => Sys2Proof.Machine.execRelayTransitionTimeout c s
  | .contactorFeedbackAccepted => Sys2Proof.Machine.execContactorFeedbackAccepted s
  | .contactorTransitionTimeout => Sys2Proof.Machine.execContactorTransitionTimeout s
  | .deadTimeElapsed c => Sys2Proof.Machine.execDeadTimeElapsed c s
  | .signalsOffInputChange asserted => Sys2Proof.Machine.execSignalsOffInputChange asserted s
  | .signalsOffAsserted => Sys2Proof.Machine.execSignalsOffAsserted s
  | .signalsOffReleased => Sys2Proof.Machine.execSignalsOffReleased s
  | .diagnosticDue => Sys2Proof.Machine.execDiagnosticDue s
  | .conversionComplete input => Sys2Proof.Machine.execConversionComplete input s
  | .lampSettleTimeElapsed c => Sys2Proof.Machine.execLampSettleTimeElapsed c s
  | .offCheckEligibilityTime c => Sys2Proof.Machine.execOffCheckEligibilityTime c s
  | .cableEligibilityTime c => Sys2Proof.Machine.execCableEligibilityTime c s
  | .cablePeriodElapsed c => Sys2Proof.Machine.execCablePeriodElapsed c s
  | .injectorLoadSettle => Sys2Proof.Machine.execInjectorLoadSettle s
  | .injectorTestSettle => Sys2Proof.Machine.execInjectorTestSettle s
  | .injectorClear => Sys2Proof.Machine.execInjectorClear s
  | .injectorStuck => Sys2Proof.Machine.execInjectorStuck s
  | .testOverdue c => Sys2Proof.Machine.execTestOverdue c s
  | .noise b => Sys2Proof.Machine.execNoise b s

end Sys2Proof.Machine
end

