-- ==== Sys2Proof/WellFormed.lean ====
section
/-! DEFINITION. The request a command handles, and which commands are well formed: a body that a frame can carry
(R186), a body that belongs to the command's row where rows share a request kind (log 5), an event the line can give. -/

namespace Sys2Proof

open Sys2Proof.Machine

/-- The frame of the request a command handles, none for an event. -/
def Instr.request? : Instr → Option Frame
  | .partReset _ _ => none
  | .junctionOpen tag body => some ⟨0x01, tag, body⟩
  | .junctionWrite tag body => some ⟨0x02, tag, body⟩
  | .junctionAccept tag body => some ⟨0x03, tag, body⟩
  | .junctionRead tag body => some ⟨0x04, tag, body⟩
  | .planOpen tag body => some ⟨0x08, tag, body⟩
  | .planWriteHeader tag body => some ⟨0x09, tag, body⟩
  | .planWriteSequence tag body => some ⟨0x09, tag, body⟩
  | .planWriteEntryTiming tag body => some ⟨0x09, tag, body⟩
  | .planClose tag body => some ⟨0x0A, tag, body⟩
  | .planRead tag body => some ⟨0x0B, tag, body⟩
  | .planSelect tag body => some ⟨0x0C, tag, body⟩
  | .scheduleWrite tag body => some ⟨0x0D, tag, body⟩
  | .scheduleRead tag body => some ⟨0x0E, tag, body⟩
  | .clockSet tag body => some ⟨0x0F, tag, body⟩
  | .clockRead tag body => some ⟨0x10, tag, body⟩
  | .restart tag body => some ⟨0x18, tag, body⟩
  | .resume tag body => some ⟨0x19, tag, body⟩
  | .goAllRed tag body => some ⟨0x1A, tag, body⟩
  | .goDark tag body => some ⟨0x1B, tag, body⟩
  | .hold tag body => some ⟨0x1C, tag, body⟩
  | .releaseHold tag body => some ⟨0x1D, tag, body⟩
  | .advance tag body => some ⟨0x1E, tag, body⟩
  | .demandInsert tag body => some ⟨0x1F, tag, body⟩
  | .statusRead tag body => some ⟨0x20, tag, body⟩
  | .circuitRead tag body => some ⟨0x28, tag, body⟩
  | .lampLearn tag body => some ⟨0x29, tag, body⟩
  | .cableTestNow tag body => some ⟨0x2A, tag, body⟩
  | .cableSuspend tag body => some ⟨0x2B, tag, body⟩
  | .cableResume tag body => some ⟨0x2C, tag, body⟩
  | .detectorRead tag body => some ⟨0x2D, tag, body⟩
  | .faultListRead tag body => some ⟨0x30, tag, body⟩
  | .faultClear tag body => some ⟨0x31, tag, body⟩
  | .faultClearAll tag body => some ⟨0x31, tag, body⟩
  | .measureSetOn tag body => some ⟨0x32, tag, body⟩
  | .measureSetOff tag body => some ⟨0x32, tag, body⟩
  | .measureRead tag body => some ⟨0x33, tag, body⟩
  | .reportControl tag body => some ⟨0x34, tag, body⟩
  | .linkStatusRead tag body => some ⟨0x35, tag, body⟩
  | .linkStatusReadAndZero tag body => some ⟨0x35, tag, body⟩
  | .unknownRequest kind tag body => some ⟨kind, tag, body⟩
  | .frameReceived _ => none
  | .gapTimeout => none
  | .breakRecognised => none
  | .linkReset => none
  | .lineReadyChange _ => none
  | .frameSent => none
  | .clockSecond => none
  | .minimumGreenExpiry => none
  | .gapExpiry => none
  | .maximumGreenReached => none
  | .fixedDurationReached => none
  | .floorWaitReached => none
  | .commitLeadExpiry => none
  | .timetableEntryDue => none
  | .redProofTimeout => none
  | .interstageEnd => none
  | .startUpAllRedExpiry => none
  | .detectorInputChange _ _ => none
  | .detectorActivation _ => none
  | .detectorRelease _ => none
  | .detectorStuckOn _ => none
  | .detectorSilent _ => none
  | .chatterIntervalEnd => none
  | .relayFeedbackChange _ _ => none
  | .relayFeedbackAccepted _ => none
  | .relayTransitionTimeout _ => none
  | .contactorFeedbackAccepted => none
  | .contactorTransitionTimeout => none
  | .deadTimeElapsed _ => none
  | .signalsOffInputChange _ => none
  | .signalsOffAsserted => none
  | .signalsOffReleased => none
  | .diagnosticDue => none
  | .conversionComplete _ => none
  | .lampSettleTimeElapsed _ => none
  | .offCheckEligibilityTime _ => none
  | .cableEligibilityTime _ => none
  | .cablePeriodElapsed _ => none
  | .injectorLoadSettle => none
  | .injectorTestSettle => none
  | .injectorClear => none
  | .injectorStuck => none
  | .testOverdue _ => none
  | .noise _ => none

/-- R186: a frame carries at most 246 body bytes. -/
def bodyFits (body : List Byte) : Bool := body.length ≤ 246

/-- The well-formedness checks, one line per command. -/
def Instr.wellFormed : Instr → Bool
  | .partReset _ _ => true
  | .junctionOpen _ body => bodyFits body
  | .junctionWrite _ body => bodyFits body
  | .junctionAccept _ body => bodyFits body
  | .junctionRead _ body => bodyFits body
  | .planOpen _ body => bodyFits body
  | .planWriteHeader _ body => bodyFits body && byteAt body 1 ≠ 2 && byteAt body 1 ≠ 3
  | .planWriteSequence _ body => bodyFits body && byteAt body 1 = 2
  | .planWriteEntryTiming _ body => bodyFits body && byteAt body 1 = 3
  | .planClose _ body => bodyFits body
  | .planRead _ body => bodyFits body
  | .planSelect _ body => bodyFits body
  | .scheduleWrite _ body => bodyFits body
  | .scheduleRead _ body => bodyFits body
  | .clockSet _ body => bodyFits body
  | .clockRead _ body => bodyFits body
  | .restart _ body => bodyFits body
  | .resume _ body => bodyFits body
  | .goAllRed _ body => bodyFits body
  | .goDark _ body => bodyFits body
  | .hold _ body => bodyFits body
  | .releaseHold _ body => bodyFits body
  | .advance _ body => bodyFits body
  | .demandInsert _ body => bodyFits body
  | .statusRead _ body => bodyFits body
  | .circuitRead _ body => bodyFits body
  | .lampLearn _ body => bodyFits body
  | .cableTestNow _ body => bodyFits body
  | .cableSuspend _ body => bodyFits body
  | .cableResume _ body => bodyFits body
  | .detectorRead _ body => bodyFits body
  | .faultListRead _ body => bodyFits body
  | .faultClear _ body => bodyFits body && byteAt body 0 ≠ 0
  | .faultClearAll _ body => bodyFits body && byteAt body 0 = 0
  | .measureSetOn _ body => bodyFits body && byteAt body 0 ≠ 0
  | .measureSetOff _ body => bodyFits body && byteAt body 0 = 0
  | .measureRead _ body => bodyFits body
  | .reportControl _ body => bodyFits body
  | .linkStatusRead _ body => bodyFits body && byteAt body 0 ≠ 1
  | .linkStatusReadAndZero _ body => bodyFits body && byteAt body 0 = 1
  | .unknownRequest kind _ body => bodyFits body && !isRequestKind kind
  | .frameReceived chars => !chars.isEmpty
  | .gapTimeout => true
  | .breakRecognised => true
  | .linkReset => true
  | .lineReadyChange _ => true
  | .frameSent => true
  | .clockSecond => true
  | .minimumGreenExpiry => true
  | .gapExpiry => true
  | .maximumGreenReached => true
  | .fixedDurationReached => true
  | .floorWaitReached => true
  | .commitLeadExpiry => true
  | .timetableEntryDue => true
  | .redProofTimeout => true
  | .interstageEnd => true
  | .startUpAllRedExpiry => true
  | .detectorInputChange _ _ => true
  | .detectorActivation _ => true
  | .detectorRelease _ => true
  | .detectorStuckOn _ => true
  | .detectorSilent _ => true
  | .chatterIntervalEnd => true
  | .relayFeedbackChange _ _ => true
  | .relayFeedbackAccepted _ => true
  | .relayTransitionTimeout _ => true
  | .contactorFeedbackAccepted => true
  | .contactorTransitionTimeout => true
  | .deadTimeElapsed _ => true
  | .signalsOffInputChange _ => true
  | .signalsOffAsserted => true
  | .signalsOffReleased => true
  | .diagnosticDue => true
  | .conversionComplete _ => true
  | .lampSettleTimeElapsed _ => true
  | .offCheckEligibilityTime _ => true
  | .cableEligibilityTime _ => true
  | .cablePeriodElapsed _ => true
  | .injectorLoadSettle => true
  | .injectorTestSettle => true
  | .injectorClear => true
  | .injectorStuck => true
  | .testOverdue _ => true
  | .noise b => b ≠ marker

/-- A well-formed command. -/
def Instr.WellFormed (i : Instr) : Prop := i.wellFormed = true

end Sys2Proof
end

