-- ==== Sys2Proof/Safety.lean ====
section
/-! DEFINITION. What counts as a sound state and as a taken request, in the terms the statements use. -/

namespace Sys2Proof.Machine

/-- R191, R192, R194: the queues of the link hold no more than they may. -/
def QueuesBounded (s : State) : Prop :=
  s.lnk.requests.length ≤ 4 ∧ s.lnk.replies.length ≤ 4 ∧ s.lnk.reports.length ≤ 32

/-- R177: the active fault list holds at most 32 entries. -/
def ListBounded (s : State) : Prop := s.flt.list.length ≤ 32

/-- R183: the FAULT output is asserted exactly while the list holds an ACTIVE entry. -/
def OutputFollows (s : State) : Prop := s.flt.output = s.flt.list.any FEntry.isActive

/-- R2: the description state and the junction mode are paired. -/
def ModePaired (s : State) : Prop := s.jds.desc = .accepted ↔ s.flt.mode ≠ .unconfigured

/-- The bounds of the queues and of the list, the FAULT output, and no event left over for FLT (log 11). -/
def Sound (s : State) : Prop := QueuesBounded s ∧ ListBounded s ∧ OutputFollows s ∧ s.flt.inbox = []

/-- R175: while any ACTIVE fault entry has response DARK, the junction mode is DARK or UNCONFIGURED. -/
def DarkFaultsDark (s : State) : Prop :=
  ∀ e ∈ s.flt.list, e.state = .active → responseOf s e.kind e.subject = .dark →
    s.flt.mode = .dark ∨ s.flt.mode = .unconfigured

/-- R88, R89: the coil of a relay is on exactly in CLOSING, CLOSED and FAILED-OPEN. -/
def CoilsPaired (s : State) : Prop :=
  ∀ c, (relayAt s c).coil.commanded = true ↔
    relayState s c = .closing ∨ relayState s c = .closed ∨ relayState s c = .failedOpen

/-- R15, check 1: the conflict rows agree. -/
def ConflictsMutual (s : State) : Prop := ∀ g n, s.jds.conflicts g n = s.jds.conflicts n g

/-- R100: no two groups that conflict have their green relays commanded on together. -/
def GreensApart (s : State) : Prop :=
  ∀ g n, g ≠ n → s.jds.conflicts g n = true →
    ¬((relayAt s (greenOf g)).coil.commanded = true ∧ (relayAt s (greenOf n)).coil.commanded = true)

/-- R63: the plan in force and the pending plan are VALID slots. -/
def PlansValid (s : State) : Prop :=
  ∀ p, s.plans.inForce = some p ∨ s.plans.pendingPlan = some p → (planAt s p).state = .valid

/-- R148, R159: a test in flight stands on a circuit whose relay is OPEN, that is not entering and is not in the pending
switch-on set, and the injector is connected to no other circuit than that of the test in flight. -/
def InjectorOnTest (s : State) : Prop :=
  (∀ w, s.cbl.test = some w → relayState s w.circuit = .open ∧ (relayAt s w.circuit).entering = false ∧
    s.seq.switchOn.get w.circuit = false) ∧
  ∀ c m, s.cbl.pos = .on c m → ∃ w, s.cbl.test = some w ∧ w.circuit = c

/-- R24: what SEQ commands for a stage's groups. -/
def showing (groups : Flags 16) (g : Group) : GState := if groups.get g then .green else .red

/-- What SEQ commands for a group once the rest of the timetable has been issued: the state of its last entry that is
not yet ISSUED, and with none the state it has. -/
def shownAtEnd (s : State) (g : Group) : GState :=
  (((s.seq.timetable.filter fun e => e.group = g && e.status ≠ .issued).getLast?).map (·.state)).getD
    (s.seq.commanded.get g)

/-- R41 to R43: the timetable of an interstage in progress: by offset; for used groups alone; only a GREEN entry is
HELD; a GREEN entry is its group's last; an entry leaves PENDING after the earlier ones of its group; and before a GREEN
entry that is not ISSUED, every conflicting group still commanded GREEN has an entry that ends it. -/
def TimetableInOrder (s : State) : Prop :=
  ∀ a e b, s.seq.timetable = a ++ e :: b →
    (∀ x ∈ b, e.offset ≤ x.offset) ∧ s.jds.used e.group = true ∧ (e.status = .held → e.state = .green) ∧
    (e.state = .green → ∀ x ∈ b, x.group ≠ e.group) ∧
    (e.status ≠ .pending → ∀ x ∈ a, x.group = e.group → x.status = .issued) ∧
    (e.state = .green → e.status ≠ .issued → ∀ h, s.jds.conflicts e.group h = true → s.seq.commanded.get h = .green →
      e.status = .pending ∧ ∃ y ∈ a, y.group = h ∧ y.state ≠ .green ∧ y.status = .pending)

/-- R24: no two conflicting groups are commanded GREEN together; an UNUSED group is OFF; in STAGE and COMMIT the groups
of the current stage are GREEN and the other used groups RED, in START-ALL-RED and ALL-RED-HELD every used group is
RED, in IDLE every group is OFF, and an interstage leads to the target's display. With what this rests on: the
description is ACCEPTED outside IDLE and has passed its checks (R15). -/
def SequencerShows (s : State) : Prop :=
  ModePaired s ∧ (s.jds.desc = .accepted → failedCheck s.jds = none) ∧
  (s.jds.desc ≠ .accepted → s.seq.state = .idle) ∧
  (∀ g h, g ≠ h → s.jds.conflicts g h = true →
    ¬(s.seq.commanded.get g = .green ∧ s.seq.commanded.get h = .green)) ∧
  (∀ g, s.jds.used g = false → s.seq.commanded.get g = .off) ∧
  (s.seq.state = .idle → ∀ g, s.seq.commanded.get g = .off) ∧
  (s.seq.state = .startAllRed ∨ s.seq.state = .allRedHeld → ∀ g, s.jds.used g = true → s.seq.commanded.get g = .red) ∧
  (s.seq.state = .stage ∨ s.seq.state = .commit → ∀ g, s.jds.used g = true →
    s.seq.commanded.get g = showing (currentSet s) g) ∧
  (s.seq.state = .interstage → TimetableInOrder s ∧
    ∀ g, s.jds.used g = true → shownAtEnd s g = showing (s.seq.target.groups s.jds) g)

/-- `t` is `u` with the oldest request of `s` gone, a reply with this answer at the end of the reply queue of `s`, and
perhaps a frame started. With `u` the state `s` itself the request has no other effect. -/
def Replied (s : State) (kind tag : Byte) (a : Answer) (u t : State) : Prop :=
  t = { u with
    lnk := { u.lnk with
      requests := s.lnk.taken.requests
      handling := s.lnk.taken.handling
      replies := s.lnk.replies ++ [⟨kind, tag, a.body⟩]
      tx := t.lnk.tx } }

/-- R192, R201 to R206: the body has the length of its kind's layout (a JUNCTION-WRITE with no record kind and a
PLAN-WRITE with no write kind do not: log 27). -/
def LengthFits (kind : Nat) (body : List Byte) : Prop :=
  (kind ∈ [0x01, 0x03, 0x0E, 0x10, 0x18, 0x19, 0x1A, 0x1B, 0x1C, 0x1D, 0x20, 0x33] → body.length = 0) ∧
  (kind ∈ [0x08, 0x0A, 0x0B, 0x0C, 0x1E, 0x1F, 0x28, 0x29, 0x2A, 0x2B, 0x2C, 0x2D, 0x35] → body.length = 1) ∧
  (kind ∈ [0x04, 0x31] → body.length = 2) ∧ (kind ∈ [0x32, 0x34] → body.length = 3) ∧
  (kind = 0x0F → body.length = 4) ∧ (kind = 0x0D → body.length = 6) ∧ (kind = 0x30 → body.length ≤ 1) ∧
  (kind = 0x02 → 1 ≤ body.length ∧
    ∀ x ∈ [(1, 7), (2, 11), (3, 2), (4, 16), (5, 2), (6, 8), (7, 13), (8, 3)],
      byteAt body 0 = x.1 → body.length = x.2 + 2) ∧
  (kind = 0x09 → 2 ≤ body.length ∧ (byteAt body 1 = 1 → body.length = 4) ∧
    (byteAt body 1 = 2 → 3 ≤ body.length ∧ body.length = byteAt body 2 + 3) ∧
    (byteAt body 1 = 3 → body.length = 11))

/-- The queues of LNK after a taken request: the request gone, the reply placed. -/
def Answered (s : State) (kind tag : Byte) (a : Answer) (t : State) : Prop :=
  t.lnk.requests = s.lnk.taken.requests ∧ t.lnk.handling = s.lnk.taken.handling ∧
  t.lnk.replies = s.lnk.replies ++ [⟨kind, tag, a.body⟩]

/-- R194: among the reports waiting in `t` is a ROUTINE one of this kind, subject and fields, posted at the uptime of
`s`. -/
def Reported (s t : State) (k : ReportKind) (j : RSubject) (fields : List Byte) : Prop :=
  ∃ lost, (⟨k, false, s.uptime, j, lost, fields⟩ : Report) ∈ t.lnk.reports

/-- A report as it is posted: its kind, whether its class is ALARM, its subject, its fields. -/
abbrev Posting := ReportKind × Bool × RSubject × List Byte

/-- The reports of the list, posted in order. -/
def posts (l : List Posting) (s : State) : State := l.foldl (fun u x => post x.1 x.2.1 x.2.2.1 x.2.2.2 u) s

/-- The report queue of `t` is that of `s` after these postings, each admitted by R194, and no other. -/
def Posted (l : List Posting) (s t : State) : Prop :=
  t.lnk.reports = (posts l s).lnk.reports ∧ t.lnk.lost = (posts l s).lnk.lost

/-- R207: the subject of a report about a fault. -/
def reportSubject : Subject → RSubject
  | .none => .none
  | .group g => .group g
  | .circuit c => .circuit c
  | .detector d => .detector d

/-- R200: the position of a value in the Values column of its table, counting the first as 0. -/
def position {α : Type} [DecidableEq α] (values : List α) (x : α) : Byte := b8 (values.idxOf x)

/-- R168, R207: the MODE report of a change, with its subject, cause class and cause value. -/
def modePosting (prev new : Mode) (subject : RSubject) (cls value : Byte) : Posting :=
  let code := position [Mode.unconfigured, .dark, .startUp, .run, .hold, .allRed]
  (.mode, decide (new = .dark ∨ new = .allRed), subject, [code prev, code new, cls, value])

/-- R68, R207: the PLAN-CHANGE report of the taking of the pending plan, if one is taken, with its occasion. -/
def planPostings (occasion : Byte) (s : State) : List Posting :=
  match s.plans.pendingPlan with
  | none => []
  | some p => [(.planChange, false, .slot p, [number? s.plans.inForce, b8 (planAt s p).id, occasion])]

/-- R54, R207: a STAGE-CHANGE report: the new stage, the previous one, the slot in force, the time in 0.1 s. -/
def stagePosting (new prev : Option Stage) (inForce : Option Slot) (time : Nat) : Posting :=
  let subject := match new with
    | some k => RSubject.stage k
    | none => .none
  (.stageChange, false, subject, number? prev :: number? inForce :: be16 time)

/-- R84: the fields of a DETECTOR-STATE report: the debounced state, the fault state, the three conditions. -/
def detectorStateFields (x : Det1) : List Byte :=
  [if x.active then 0 else 1, position [DetFault.none, .stuckOn, .silent, .chatter] x.fault,
    packByte [x.stuckOn, x.silent, x.chatter]]

/-! ### Stage ends (R34 to R37, R67) -/

/-- R34: `e` is the first entry of a sequence of `n` that satisfies `ok`, looked at in sequence order from the entry
after the sequence position, from the first entry with none, wrapping after the last. -/
def FirstFrom (n : Nat) (position : Option Entry) (ok : Entry → Prop) (e : Entry) : Prop :=
  let start := match position with
    | some q => if q.val + 1 < n then q.val + 1 else 0
    | none => 0
  e.val < n ∧ ok e ∧ ∀ d : Entry, d.val < n → ok d → (e.val + n - start) % n ≤ (d.val + n - start) % n

/-- R34, cases 2, 4 and 5: the first entry that names the stage of an advance; with none, in a DEMAND plan, the first
whose stage has its flag set; with none, and in a FIXED-TIME plan, the entry at the search start. -/
def TargetSearched (p : PlanSlot) (position : Option Entry) (demand : Flags 12) (advance : Option Stage) (x : Target) :
    Prop :=
  ∃ e, x = .stage (p.entries.get e).stage e ∧
    let named := fun d : Entry => advance = some (p.entries.get d).stage
    let flagged := fun d : Entry => demand.get (p.entries.get d).stage = true
    let nowhere := fun ok : Entry → Prop => ∀ d : Entry, d.val < p.length → ¬ok d
    (FirstFrom p.length position named e ∨
      nowhere named ∧ p.mode = .demand ∧ FirstFrom p.length position flagged e ∨
      nowhere named ∧ (p.mode = .fixedTime ∨ nowhere flagged) ∧ FirstFrom p.length position (fun _ => True) e)

/-- R36: the change from the groups `old` to the groups `new` will energise the circuit. -/
def SwitchesOn (j : Jds) (old new : Flags 16) (c : Circuit) : Prop :=
  let g := groupOf c
  let loses := old.get g = true ∧ new.get g = false
  let gains := new.get g = true ∧ old.get g = false
  match aspectOf c with
  | .red => loses
  | .amber => j.kindOf g = .vehicle ∧ (loses ∨ gains ∧ 0 < (j.group.get g).redAmber)
  | .green => gains

/-- R34 to R37, R67: `t` is `s` after the end of its stage, with the advance acted on: COMMIT with its lead running, the
stage still current with its greens, a pending plan taken with the position it gives the stage, the target searched (the
empty one in ALL-RED), and the pending switch-on set. -/
def CommitEntered (s : State) (advance : Option Stage) (t : State) : Prop :=
  t.seq.state = .commit ∧ t.seq.lead = some ⟨0, 100 * s.jds.timing.commitLead⟩ ∧ t.seq.pendingAdvance = none ∧
  t.seq.current = s.seq.current ∧ t.seq.commanded = s.seq.commanded ∧
  t.plans.inForce = s.plans.pendingPlan.or s.plans.inForce ∧ t.plans.pendingPlan = none ∧
  (s.plans.pendingPlan = none → t.seq.position = s.seq.position) ∧
  (∀ i, s.plans.pendingPlan = some i → ∀ e, t.seq.position = some e ↔
    e.val < (planAt s i).length ∧ s.seq.current = some ((planAt s i).entries.get e).stage ∧
    ∀ d, d < e → s.seq.current ≠ some ((planAt s i).entries.get d).stage) ∧
  (s.flt.mode = .allRed → t.seq.target = .empty) ∧
  (s.flt.mode ≠ .allRed → ∀ i, t.plans.inForce = some i → 0 < (planAt s i).length → (planAt s i).length ≤ 12 →
    TargetSearched (planAt s i) t.seq.position t.seq.demand advance t.seq.target) ∧
  ∀ c, t.seq.switchOn.get c = true ↔ SwitchesOn s.jds (currentSet s) (t.seq.target.groups s.jds) c

/-- R127: `c` is the next circuit after the pointer that satisfies `ok`: the lowest above it, or, with none above it,
the lowest of all. -/
def NextAfter (pointer : Option Circuit) (ok : Circuit → Bool) (c : Circuit) : Prop :=
  ok c = true ∧ ∀ e, ok e = true → e ≠ c →
    match pointer with
    | none => c < e
    | some p => p < c ∧ (e ≤ p ∨ c < e) ∨ c ≤ p ∧ e ≤ p ∧ c < e

/-- R148, R159, R160: the test `w`, in flight in `s`, has been abandoned in `t`: it is in flight no more, its circuit
counts one more abandonment, an injector that is ON is releasing with a limit of 100 ms, and its WAITING request is
withdrawn. -/
def Abandoned (s : State) (w : Test) (t : State) : Prop :=
  (∀ x, t.cbl.test = some x → x.circuit ≠ w.circuit) ∧
  t.cbl.cable.get w.circuit = { s.cbl.cable.get w.circuit with
    abandons := min ((s.cbl.cable.get w.circuit).abandons + 1) 255 } ∧
  (∀ c m, s.cbl.pos = .on c m → t.cbl.pos = .releasing c m false ∧ t.cbl.release = some ⟨0, 100⟩) ∧
  ((∀ c m, s.cbl.pos ≠ .on c m) → t.cbl.pos = s.cbl.pos ∧ t.cbl.release = s.cbl.release) ∧
  ∀ q, s.mea.cbl = .waiting q → q.channel ∈ [.voltage w.circuit, .loop w.circuit, .leak w.circuit] →
    t.mea.cbl ≠ .waiting q

/-- R1: a recorded uptime one millisecond later. -/
def later (t : Option Stamp) : Option Stamp := t.map fun u => ⟨u.recorded, min (u.elapsed + 1) 4294967295⟩

/-- R88: the state a commanded field that becomes `on` leads to, by the state and the feedback it meets, and what FLT
hears under the two kinds of the owner. -/
def commandTable (failClosed failOpen : FaultKind) (j : Subject) (st : RelayState) (feedback on : Bool) :
    RelayState × List FltEvent :=
  match st, on with
  | .open, true | .opening, true => (if feedback then .closed else .closing, [])
  | .closing, false | .closed, false => (if feedback then .opening else .open, [])
  | .failedOpen, false => (.open, [.clear failOpen j])
  | .failedClosed, true => (.closed, [.clear failClosed j])
  | st, _ => (st, [])

/-- R89: the state an accepted feedback leads to, and what FLT hears. -/
def feedbackTable (failClosed failOpen : FaultKind) (j : Subject) (st : RelayState) (closed : Bool) :
    RelayState × List FltEvent :=
  match st, closed with
  | .open, true => (.failedClosed, [.raise failClosed j 0xFF])
  | .closing, true => (.closed, [])
  | .closed, false => (.failedOpen, [.raise failOpen j 0xFF])
  | .opening, false => (.open, [])
  | .failedOpen, true => (.closed, [.clear failOpen j])
  | .failedClosed, false => (.open, [.clear failClosed j])
  | st, _ => (st, [])

/-- R89: the state the expiry of the transition timer leads to, and what FLT hears. -/
def expiryTable (failClosed failOpen : FaultKind) (j : Subject) (st : RelayState) : RelayState × List FltEvent :=
  match st with
  | .closing => (.failedOpen, [.raise failOpen j 0xFF])
  | .opening => (.failedClosed, [.raise failClosed j 0xFF])
  | st => (st, [])

/-- The first field of the list, in its order, that is out of range: the item that BAD-FIELD names (R5). -/
def FirstOut : List (Nat × Prop) → Nat → Prop
  | [], _ => False
  | (n, ok) :: l, item => (¬ok ∧ item = n) ∨ (ok ∧ FirstOut l item)

/-- R157: a cause's runs before and after a completed test that shows the cause, or does not. -/
def RunMoves (shown : Prop) (x y : CauseRun) : Prop :=
  (shown → y.fail = min (x.fail + 1) 2 ∧ y.pass = 0 ∧ (y.confirmed = true ↔ x.confirmed = true ∨ y.fail = 2)) ∧
  (¬shown → y.fail = 0 ∧ y.pass = min (x.pass + 1) 3 ∧ (y.confirmed = true ↔ x.confirmed = true ∧ y.pass ≠ 3))

/-- R138, R139: the event of a condition that was `was` and is `now`. -/
def edge (was now : Bool) (up down : FltEvent) : List FltEvent :=
  if now && !was then [up] else if was && !now then [down] else []

/-- R144: a retest count after one more counted reading, idle at 3. -/
def retestAfter (n : Option Nat) : Option Nat := n.bind fun n => if n + 1 < 3 then some (n + 1) else none

/-- R193: the frame an idle transmitter starts. -/
def nextFrame (l : Lnk) : Option Sending :=
  if l.lineReady then
    match l.replies, l.reporting, l.reports with
    | f :: _, _, _ => some ⟨true, wire f, 0⟩
    | [], true, r :: _ => some ⟨false, wire r.frame, 0⟩
    | [], _, _ => none
  else none

end Sys2Proof.Machine
end

