-- ==== Sys2Proof/Certificates/Slice0/Obligations.lean ====
section
/-! DEFINITION. The statements for the provers: one `def Obligations.<Name> : Prop` each. `s` is the state a command
finds, `t` the state it answers. A statement that names `u` gives the command's own effect `u`; `conclude u` is what
follows at once: FLT takes the events it was handed, the measurements are placed and granted, a frame is started. -/

section

open Sys2Proof Sys2Proof.Machine

/-! ### The machine -/

/-- The command at the front of the queue runs, on the state with the queue's rest. -/
def Obligations.StepRunsFrontCommand : Prop :=
  ∀ (c : Instr) (rest : List Instr) (s : State), s.pending = c :: rest →
    step s = exec c { s with pending := rest }

/-- R1, and the model's choice of log 2: with no command waiting, a step is one millisecond; the uptime and every
elapsed count go on by one, no further than 4,294,967,295, and so do every running timer, a held gap timer apart (R30),
every debounce and the milliseconds of the clock's second and of the chatter interval; the silence inside a frame grows
(R190); what is not time stays, block by block. That the elapsed counts of active since and silent since rise also
while the description is not ACCEPTED, and the chatter interval stands still, is the model's choice (log 44). A circuit
whose judgement has waited for the commands of the moment (R102, log 47) is judged first. -/
def Obligations.IdleStepIsOneMillisecond : Prop :=
  let passes := fun s t : State => t.uptime = s.uptime + 1 ∧ t.pending = s.pending ∧
    let more := Option.map fun x : Timer => ({ x with ms := x.ms + 1 } : Timer)
    let stage := Option.map fun ms : Nat => min (ms + 1) 6553400
    (∀ c, (relayAt t c).coil.lastChange = later (relayAt s c).coil.lastChange) ∧
    t.osw.contactor.lastChange = later s.osw.contactor.lastChange ∧
    (∀ c, (cableAt t c).lastTest = later (cableAt s c).lastTest) ∧
    (∀ c, some (cableAt t c).dueFrom = later (some (cableAt s c).dueFrom)) ∧
    (∀ d, (recOf t d).activeSince = later (recOf s d).activeSince) ∧
    (∀ d, (recOf t d).silentSince = later (recOf s d).silentSince) ∧
    t.seq.start = later s.seq.start ∧ (∀ g, t.seq.leg.get g = later (s.seq.leg.get g)) ∧
    t.seq.lead = more s.seq.lead ∧ t.seq.allRed = more s.seq.allRed ∧
    t.seq.elapsed = stage s.seq.elapsed ∧ t.seq.maximum = stage s.seq.maximum ∧
    t.seq.gap = (if gapHeld s then s.seq.gap.map fun _ => 0 else stage s.seq.gap) ∧
    (∀ c, (relayAt t c).coil.timer = more (relayAt s c).coil.timer) ∧
    t.osw.contactor.timer = more s.osw.contactor.timer ∧ (∀ d, (recOf t d).timer = more (recOf s d).timer) ∧
    t.jds = s.jds ∧ t.lmp = s.lmp ∧ t.flt = s.flt ∧
    t.seq = { s.seq with
      elapsed := t.seq.elapsed, gap := t.seq.gap, maximum := t.seq.maximum, lead := t.seq.lead
      allRed := t.seq.allRed, start := t.seq.start, leg := t.seq.leg } ∧
    t.plans = { s.plans with clockMs := if s.plans.clock = none then s.plans.clockMs else s.plans.clockMs + 1 } ∧
    t.det.intervalMs = (if s.jds.desc = .accepted then s.det.intervalMs + 1 else s.det.intervalMs) ∧
    (∀ d, recOf t d = { recOf s d with
      timer := (recOf t d).timer, activeSince := (recOf t d).activeSince, silentSince := (recOf t d).silentSince }) ∧
    (∀ c, relayAt t c = { relayAt s c with coil := { (relayAt s c).coil with
      lastChange := (relayAt t c).coil.lastChange, timer := (relayAt t c).coil.timer
      debounce := (relayAt s c).coil.debounce.map (· + 1) } }) ∧
    t.osw = { s.osw with
      relay := t.osw.relay
      contactor := { s.osw.contactor with
        lastChange := t.osw.contactor.lastChange, timer := t.osw.contactor.timer
        debounce := s.osw.contactor.debounce.map (· + 1) }
      signalsOffDebounce := s.osw.signalsOffDebounce.map (· + 1) } ∧
    t.mea = { s.mea with
      conv := s.mea.conv.map fun v => { v with elapsed := v.elapsed + 1000 }
      diagMs := s.mea.diagMs + 1 } ∧
    (∀ c, cableAt t c = { cableAt s c with lastTest := (cableAt t c).lastTest, dueFrom := (cableAt t c).dueFrom }) ∧
    t.cbl = { s.cbl with
      cable := t.cbl.cable
      release := more s.cbl.release
      test := s.cbl.test.map fun w => { w with settle := more w.settle } } ∧
    t.lnk = { s.lnk with
      tx := s.lnk.tx.map fun x => { x with elapsed := x.elapsed + 1000 }
      idle := if s.lnk.rx.state = .waitMarker then s.lnk.idle else s.lnk.idle + 1000 }
  (∀ s : State, s.pending = [] → s.osw.freed = none → ∃ t, step s = .next t ∧ passes s t) ∧
  ∀ (c : Circuit) (s : State), s.pending = [] → s.osw.freed = some c →
    ∃ t, step s = .next t ∧ passes (conclude (oswAfter { s with osw := { s.osw with freed := none } })) t

/-- PART_RESET (R2, R22, R55, R63, R69, R70, R73, R86, R92, R93, R97, R104, R108, R124, R146, R148, R166, R185, R197):
every block takes its reset values; the rate is the straps', POWER-UP is the one report. What the spec does not give is
the model's choice: the input pins keep their levels and the waiting commands wait on (log 7); a break in progress is
forgotten (log 62); the milliseconds of the clock's second and the idle time of the line are 0 (log 6), the reset is the
first 200 ms boundary (log 8), and the number still expected is 0 and the running CRC FFFFh in WAIT-MARKER (log 67); the
model's own fields are at rest: FLT's mailbox (log 11), the stages that STAGE-CHANGE names (log 16), the void conversion
(log 30), the circuit whose judgement waits (log 47), the request being handled (log 61). -/
def Obligations.PartResetLoadsResetValues : Prop :=
  ∀ (r1 r0 : Bool) (s : State), ∃ t, exec (.partReset r1 r0) s = .next t ∧
    t.uptime = 0 ∧ t.jds = State.reset.jds ∧ t.seq = State.reset.seq ∧ t.plans = State.reset.plans ∧
    t.mea = State.reset.mea ∧ t.lmp = State.reset.lmp ∧ t.cbl = State.reset.cbl ∧ t.flt = State.reset.flt ∧
    t.jds.desc = .empty ∧ t.flt.mode = .unconfigured ∧ t.seq.state = .idle ∧ t.osw.phase = .outputsOff ∧
    (∀ c, relayAt t c = {
      coil := {
        commanded := false, state := .open, feedback := false, lastChange := none, timer := none
        raw := (relayAt s c).coil.raw, debounce := if (relayAt s c).coil.raw then some 0 else none }
      switchCount := 0, entering := false, releaseAsked := false }) ∧
    t.osw.contactor = {
      commanded := false, state := .open, feedback := false, lastChange := none, timer := none
      raw := s.osw.contactor.raw, debounce := if s.osw.contactor.raw then some 0 else none } ∧
    t.osw.signalsOff = false ∧ t.osw.signalsOffRaw = s.osw.signalsOffRaw ∧
    t.osw.signalsOffDebounce = (if s.osw.signalsOffRaw then some 0 else none) ∧
    (∀ g, t.osw.stored.get g = .off ∧ t.osw.conflict.get g = false) ∧ t.osw.freed = none ∧
    (∀ d, recOf t d = { contact := (recOf s d).contact }) ∧
    t.lnk = { State.reset.lnk with
      rate := t.lnk.rate
      reports := [⟨.powerUp, false, 0, .none, 0, [b8 t.lnk.rate.code]⟩]
      lineReady := s.lnk.lineReady } ∧
    t.lnk.rate = (if r1 then if r0 then .b115200 else .b57600 else if r0 then .b19200 else .b9600) ∧
    t.pending = s.pending

/-! ### What every step keeps -/

/-- The state after reset meets the invariants that the next statements say every step keeps. -/
def Obligations.ResetMeetsTheInvariants : Prop :=
  Sound State.reset ∧ ModePaired State.reset ∧ DarkFaultsDark State.reset ∧ CoilsPaired State.reset ∧
  ConflictsMutual State.reset ∧ GreensApart State.reset ∧ PlansValid State.reset ∧ InjectorOnTest State.reset ∧
  SequencerShows State.reset

/-- R177, R183, R191, R192, R194: the queues hold at most 4, 4 and 32 entries, the fault list at most 32, and the FAULT
output is asserted exactly while the list holds an ACTIVE entry: every step keeps this, from every such state. That no
event is left over for FLT is the model's (log 11). -/
def Obligations.StepKeepsQueuesListAndOutput : Prop :=
  ∀ s t : State, Sound s → step s = .next t → Sound t

/-- R175: "While any ACTIVE fault entry has response DARK, the junction mode is DARK or UNCONFIGURED." Every step keeps
it, together with the pairing of description state and mode (R2). -/
def Obligations.StepKeepsDarkFaultsDark : Prop :=
  ∀ s t : State, ModePaired s → DarkFaultsDark s → step s = .next t → ModePaired t ∧ DarkFaultsDark t

/-- R100: no step commands two conflicting greens on together: with mutual conflict rows (R15), a step that leaves the
conflict rows alone keeps every pair of conflicting greens apart, and every coil paired with its relay state (R88,
R89). -/
def Obligations.StepKeepsConflictingGreensApart : Prop :=
  ∀ s t : State, CoilsPaired s → ConflictsMutual s → GreensApart s → step s = .next t →
    CoilsPaired t ∧ (t.jds.conflict = s.jds.conflict → GreensApart t)

/-- R63: the plan in force and the pending plan are VALID slots: every step keeps this. -/
def Obligations.StepKeepsPlanInForceValid : Prop :=
  ∀ s t : State, PlansValid s → step s = .next t → PlansValid t

/-- R148: CBL connects the injector only to the circuit of the test in flight, while its relay is OPEN: every step keeps
`InjectorOnTest`, so that the relay of the circuit the injector is ON is OPEN after it. -/
def Obligations.StepKeepsInjectorOnOpenRelay : Prop :=
  ∀ s t : State, InjectorOnTest s → step s = .next t →
    InjectorOnTest t ∧ ∀ c m, t.cbl.pos = .on c m → relayState t c = .open

/-- R24: SEQ never commands two conflicting groups GREEN together, and in STAGE the groups of the current stage are
GREEN and the others RED: every step keeps `SequencerShows`. R43: a group that a step commands GREEN had its GREEN
entry waiting in the interstage, and every group that conflicts with it has red proof, before the step or after it. -/
def Obligations.StepKeepsCommandedGreensApart : Prop :=
  ∀ s t : State, SequencerShows s → step s = .next t →
    SequencerShows t ∧
    (∀ g h, g ≠ h → t.jds.conflicts g h = true →
      ¬(t.seq.commanded.get g = .green ∧ t.seq.commanded.get h = .green)) ∧
    (∀ k g, t.seq.state = .stage → t.seq.current = some k → t.jds.used g = true →
      t.seq.commanded.get g = if (t.jds.stageSet k).get g then .green else .red) ∧
    ∀ g, s.seq.commanded.get g ≠ .green → t.seq.commanded.get g = .green →
      s.seq.state = .interstage ∧ (∃ e ∈ s.seq.timetable, e.group = g ∧ e.state = .green ∧ e.status ≠ .issued) ∧
      ∀ h, s.jds.conflicts g h = true →
        (s.lmp.lamp.get (redOf h)).proof = true ∨ (t.lmp.lamp.get (redOf h)).proof = true

/-- R2, R5: the description changes by part reset, JUNCTION-OPEN, JUNCTION-WRITE and JUNCTION-ACCEPT alone. R167:
UNCONFIGURED is entered from DARK by JUNCTION-OPEN alone and left by JUNCTION-ACCEPT alone; HOLD is entered from RUN by
HOLD alone (part reset apart). -/
def Obligations.DescriptionAndModesChangeByTheirCauses : Prop :=
  (∀ (i : Instr) (s t : State), exec i s = .next t →
     (∀ r1 r0, i ≠ .partReset r1 r0) →
     (∀ tag body, i ≠ .junctionOpen tag body ∧ i ≠ .junctionWrite tag body ∧ i ≠ .junctionAccept tag body) →
     t.jds = s.jds) ∧
  ∀ (i : Instr) (s t : State), exec i s = .next t → (∀ r1 r0, i ≠ .partReset r1 r0) →
    (t.flt.mode = .unconfigured → s.flt.mode ≠ .unconfigured →
      s.flt.mode = .dark ∧ ∃ tag, i = .junctionOpen tag []) ∧
    (s.flt.mode = .unconfigured → ModePaired s → t.flt.mode ≠ .unconfigured → ∃ tag, i = .junctionAccept tag []) ∧
    (t.flt.mode = .hold → s.flt.mode ≠ .hold → s.flt.mode = .run ∧ ∃ tag, i = .hold tag [])

/-! ### Requests and replies (R192, R199) -/

/-- R192: "Every request entered into the request queue receives exactly one reply": the handler that takes a
well-formed request, the oldest one or the one being handled as a break ended (R196, log 61), removes it and places one
reply with its tag, of its kind with 80h added, or FFh for a kind that is no request kind. A body whose length does not
fit the layout of its kind is answered BAD-LENGTH, and nothing else changes. -/
def Obligations.TakenRequestGetsOneReply : Prop :=
  ∀ (i : Instr) (f : Frame) (s : State), i.WellFormed → i.request? = some f → s.lnk.replies.length < 4 →
    s.lnk.handling = some f ∨ (s.lnk.handling = none ∧ s.lnk.requests.head? = some f) →
    (¬LengthFits f.kind.toNat f.body →
      ∃ t, exec i s = .next t ∧ Replied s (f.kind + 0x80) f.tag (.no .badLength) s t) ∧
    ∃ t body, exec i s = .next t ∧ t.lnk.handling = none ∧
      t.lnk.requests = (if s.lnk.handling = none then s.lnk.requests.tail else s.lnk.requests) ∧
      t.lnk.replies = s.lnk.replies ++ [⟨if isRequestKind f.kind then f.kind + 0x80 else 0xFF, f.tag, body⟩]

/-- R192: "While the reply queue holds four, the handler takes nothing, and requests wait in their queue." A request
answered BUSY or REFUSED (a status byte other than 0) changes nothing but the queues of LNK. -/
def Obligations.WaitingAndRefusedRequestsChangeNothing : Prop :=
  (∀ (i : Instr) (f : Frame) (s : State), i.request? = some f → 4 ≤ s.lnk.replies.length → exec i s = .next s) ∧
  ∀ (i : Instr) (f : Frame) (s t : State) (kind status : Byte) (rest : List Byte), i.request? = some f →
    exec i s = .next t → t.lnk.replies = s.lnk.replies ++ [⟨kind, f.tag, status :: rest⟩] → status ≠ 0 →
    t = { s with
      lnk := { s.lnk with
        requests := s.lnk.taken.requests, handling := s.lnk.taken.handling, replies := t.lnk.replies
        tx := t.lnk.tx } }

/-! ### The line (R186 to R196) -/

/-- FRAME_RECEIVED (R186 to R189, R191): what one end sends for a frame, the other end receives as that frame: with room
in the request queue the frame is appended, the receiver waits for the next marker, and no counter moves. That the
number still expected is 0 and the running CRC FFFFh in WAIT-MARKER is the model's choice (log 67). -/
def Obligations.SentFrameIsReceived : Prop :=
  ∀ (f : Frame) (s : State), f.body.length ≤ 246 → s.lnk.inBreak = false → s.lnk.rx.state = .waitMarker →
    s.lnk.requests.length < 4 →
    ∃ t, exec (.frameReceived ((wire f).map .byte)) s = .next t ∧
      t = { s with
        lnk := { s.lnk with
          requests := s.lnk.requests ++ [f], rx := Rx.waiting, idle := 0, tx := t.lnk.tx } }

/-- GAP_TIMEOUT, BREAK_RECOGNISED, LINK_RESET, NOISE (R190, R196): what each discards, what each counts, and that it
changes nothing else; FRAME_RECEIVED (R189 to R191) where it meets an unescaped marker inside a frame (ABORTED, and a
new frame begins), a framing error, a length out of range or a bad escape (FORMAT), a CRC that differs (CHECK), or a
full request queue (OVERRUN); a line ignored during a break. At the end of a break the oldest request with room for its
reply is the one being handled, and stays to be handled whole (R196, log 61). The four character times of the gap are
40 bits (log 26); that the transmitter is idle at once as the break ends, with no wait for the character in progress, is
the model's choice (log 71); that the number still expected is 0 and the running CRC FFFFh in LENGTH and
in WAIT-MARKER is the model's choice (log 67). -/
def Obligations.LineInterruptions : Prop :=
  (∀ s : State, s.lnk.rx.state ≠ .waitMarker → s.lnk.inBreak = false → 40000000 < s.lnk.idle * s.lnk.rate.baud →
    exec .gapTimeout s = .next { s with
      lnk := { s.lnk with
        counters := { s.lnk.counters with gap := min (s.lnk.counters.gap + 1) 65535 }, rx := Rx.waiting, idle := 0 } }) ∧
  (∀ s : State, s.lnk.inBreak = false →
    exec .breakRecognised s = .next { s with
      lnk := { s.lnk with inBreak := true, rx := Rx.waiting, idle := 0 } }) ∧
  (∀ s : State, s.lnk.inBreak = true →
    exec .linkReset s = .next { s with
      lnk := { s.lnk with
        rx := Rx.waiting, idle := 0, inBreak := false, requests := [], replies := [], tx := none, reporting := false
        handling := if s.lnk.replies.length < 4 then s.lnk.handling.or s.lnk.requests.head? else none } }) ∧
  (∀ (b : Byte) (s : State), b ≠ 0xA7 → s.lnk.rx.state = .waitMarker → s.lnk.inBreak = false →
    exec (.noise b) s = .next { s with
      lnk := { s.lnk with
        counters := { s.lnk.counters with noise := min (s.lnk.counters.noise + 1) 65535 }, idle := 0 } }) ∧
  (∀ (f : Frame) (s : State), f.body.length ≤ 246 → s.lnk.inBreak = false → s.lnk.rx.state = .waitMarker →
     4 ≤ s.lnk.requests.length →
     let count := min (s.lnk.counters.overrun + 1) 65535
     ∃ t, exec (.frameReceived ((wire f).map .byte)) s = .next t ∧
       Posted [(.linkOverrun, false, .none, f.kind :: f.tag :: be16 count)] s t ∧
       t = { s with
         lnk := { s.lnk with
           counters := { s.lnk.counters with overrun := count }, rx := Rx.waiting, idle := 0
           reports := t.lnk.reports, lost := t.lnk.lost, tx := t.lnk.tx } }) ∧
  (∀ s : State, s.lnk.inBreak = false → s.lnk.rx.state ≠ .waitMarker →
    ∃ t, exec (.frameReceived [.byte 0xA7]) s = .next t ∧
      t = { s with lnk := { s.lnk with
        counters := { s.lnk.counters with aborted := min (s.lnk.counters.aborted + 1) 65535 }
        rx := { state := .length, escape := false, collected := [], expected := 0, crc := 0xFFFF }
        idle := 0, tx := t.lnk.tx } }) ∧
  (∀ (x : RxChar) (s : State), s.lnk.inBreak = false →
    x = .framingError ∨
      (∃ b, x = .byte b ∧ b ≠ 0xA7 ∧ b ≠ 0xA5 ∧ s.lnk.rx.state = .length ∧ s.lnk.rx.escape = false ∧
        (b.toNat < 2 ∨ 248 < b.toNat)) ∨
      (∃ b, x = .byte b ∧ b ≠ 0xA7 ∧ b ≠ 0x87 ∧ b ≠ 0x85 ∧ s.lnk.rx.state ≠ .waitMarker ∧ s.lnk.rx.escape = true) →
    ∃ t, exec (.frameReceived [x]) s = .next t ∧
      t = { s with lnk := { s.lnk with
        counters := { s.lnk.counters with format := min (s.lnk.counters.format + 1) 65535 }
        rx := Rx.waiting, idle := 0, tx := t.lnk.tx } }) ∧
  (∀ (f : Frame) (hi lo : Byte) (s : State), f.body.length ≤ 246 → s.lnk.inBreak = false →
    s.lnk.rx.state = .waitMarker →
    let covered := b8 (f.body.length + 2) :: f.kind :: f.tag :: f.body
    [hi, lo] ≠ be16 (crc covered).toNat →
    ∃ t, exec (.frameReceived ((0xA7 :: stuff (covered ++ [hi, lo])).map .byte)) s = .next t ∧
      t = { s with lnk := { s.lnk with
        counters := { s.lnk.counters with check := min (s.lnk.counters.check + 1) 65535 }
        rx := Rx.waiting, idle := 0, tx := t.lnk.tx } }) ∧
  (∀ (chars : List RxChar) (s : State), s.lnk.inBreak = true → exec (.frameReceived chars) s = .next s)

/-- LINE_READY_CHANGE, FRAME_SENT (R193): an idle transmitter with LINE-READY starts the oldest reply, otherwise with
reporting on the oldest report, otherwise nothing; a frame in progress completes; a frame sent leaves its queue, and the
next is looked for. -/
def Obligations.TransmitterChoosesRepliesFirst : Prop :=
  (∀ (ready : Bool) (s : State), ∃ t, exec (.lineReadyChange ready) s = .next t ∧
    t = { s with lnk := { s.lnk with lineReady := ready, tx := t.lnk.tx } } ∧
    (s.lnk.tx = none → t.lnk.tx = nextFrame { s.lnk with lineReady := ready }) ∧
    (∀ x, s.lnk.tx = some x → t.lnk.tx = some x)) ∧
  (∀ (x : Sending) (s : State), s.lnk.tx = some x → x.wire.length * 10000000 ≤ x.elapsed * s.lnk.rate.baud →
    ∃ t, exec .frameSent s = .next t ∧
      t = { s with lnk := { s.lnk with replies := t.lnk.replies, reports := t.lnk.reports, tx := t.lnk.tx } } ∧
      (x.isReply = true → t.lnk.replies = s.lnk.replies.tail ∧ t.lnk.reports = s.lnk.reports) ∧
      (x.isReply = false → t.lnk.replies = s.lnk.replies ∧ t.lnk.reports = s.lnk.reports.tail) ∧
      t.lnk.tx = nextFrame { s.lnk with replies := t.lnk.replies, reports := t.lnk.reports })

/-- R194: the admission of a posting, row by row: appended with the lost count; an ALARM in place of the oldest ROUTINE
entry that is not being sent; an ALARM with none to remove, or a ROUTINE posting, lost; a kind not enabled, nothing.
That the entry removed may be POWER-UP, which R197 has stay queued until it is sent, is the model's choice of R194
(log 69). -/
def Obligations.ReportAdmission : Prop :=
  ∀ (k : ReportKind) (alarm : Bool) (j : RSubject) (fields : List Byte) (s : State),
    let l := s.lnk
    let u := post k alarm j fields s
    u = { s with lnk := { l with reports := u.lnk.reports, lost := u.lnk.lost } } ∧
    ((alarm = false ∧ ∃ i, k.flag = some i ∧ l.kinds.get i = false) → u = s) ∧
    (¬(alarm = false ∧ ∃ i, k.flag = some i ∧ l.kinds.get i = false) →
      (l.reports.length < 32 →
        u.lnk.reports = l.reports ++ [⟨k, alarm, s.uptime, j, l.lost, fields⟩] ∧ u.lnk.lost = 0) ∧
      (32 ≤ l.reports.length → alarm = true → ∀ pre r rest, l.reports = pre ++ r :: rest → r.alarm = false →
        l.sendingReport ≤ pre.length → (∀ x ∈ pre.drop l.sendingReport, x.alarm = true) →
        u.lnk.reports = pre ++ rest ++ [⟨k, alarm, s.uptime, j, min (l.lost + 1) 65535, fields⟩] ∧ u.lnk.lost = 0) ∧
      (32 ≤ l.reports.length → (alarm = false ∨ ∀ x ∈ l.reports.drop l.sendingReport, x.alarm = true) →
        u.lnk.reports = l.reports ∧ u.lnk.lost = min (l.lost + 1) 65535))

/-- UNKNOWN_REQUEST (R192, R199): a kind outside the catalogue is answered with kind FFh, REFUSED, UNKNOWN-REQUEST.
REPORT_CONTROL, LINK_STATUS_READ, LINK_STATUS_READ_AND_ZERO (R195, R198, R206): the setting taken, or a set bit beyond
the tenth refused with BAD-FIELD; the counters read; the counters read and then zeroed, the lost count kept; another
selector refused with BAD-FIELD. The queues are counted with the request gone and the reply not yet placed (log 60, the
model's choice). -/
def Obligations.LinkRequests : Prop :=
  (∀ (kind tag : Byte) (body : List Byte) (s : State),
     kind ∉ ([0x01, 0x02, 0x03, 0x04, 0x08, 0x09, 0x0A, 0x0B, 0x0C, 0x0D, 0x0E, 0x0F, 0x10, 0x18, 0x19, 0x1A, 0x1B,
       0x1C, 0x1D, 0x1E, 0x1F, 0x20, 0x28, 0x29, 0x2A, 0x2B, 0x2C, 0x2D, 0x30, 0x31, 0x32, 0x33, 0x34, 0x35]
       : List Byte) →
     takes s kind tag body = true →
     ∃ t, exec (.unknownRequest kind tag body) s = .next t ∧
       t = { s with
         lnk := { s.lnk with
           requests := s.lnk.taken.requests
           handling := s.lnk.taken.handling
           replies := s.lnk.replies ++ [⟨0xFF, tag, [2, 1, 0, 0, 0, 0]⟩]
           tx := t.lnk.tx } }) ∧
  (∀ (tag : Byte) (on : Bool) (kinds : Flags 10) (s : State),
    takes s 0x34 tag (flagByte on :: setBytes kinds) = true →
    ∃ t, exec (.reportControl tag (flagByte on :: setBytes kinds)) s = .next t ∧
      Replied s 0xB4 tag .ok { s with lnk := { s.lnk with reporting := on, kinds := kinds } } t) ∧
  (∀ (tag on hi lo : Byte) (s : State), takes s 0x34 tag [on, hi, lo] = true → 1024 ≤ 256 * hi.toNat + lo.toNat →
    ∃ t, exec (.reportControl tag [on, hi, lo]) s = .next t ∧ Replied s 0xB4 tag (.badField 2) s t) ∧
  (∀ (tag : Byte) (s : State), takes s 0x35 tag [0] = true →
    ∃ t, exec (.linkStatusRead tag [0]) s = .next t ∧
      Replied s 0xB5 tag (.gives (linkFields s.lnk.taken)) s t) ∧
  (∀ (tag : Byte) (s : State), takes s 0x35 tag [1] = true →
    ∃ t, exec (.linkStatusReadAndZero tag [1]) s = .next t ∧
      Replied s 0xB5 tag (.gives (linkFields s.lnk.taken))
        { s with lnk := { s.lnk with counters := ⟨0, 0, 0, 0, 0, 0⟩ } } t) ∧
  (∀ (tag b : Byte) (s : State), takes s 0x35 tag [b] = true → b ≠ 0 → b ≠ 1 →
    ∃ t, exec (.linkStatusRead tag [b]) s = .next t ∧ Replied s 0xB5 tag (.badField 1) s t) ∧
  ∀ l : Lnk, linkFields l =
    be16 l.counters.noise ++ be16 l.counters.aborted ++ be16 l.counters.gap ++ be16 l.counters.format ++
    be16 l.counters.check ++ be16 l.counters.overrun ++ be16 l.lost ++
    [b8 l.requests.length, b8 l.replies.length, b8 l.reports.length, flagByte l.reporting] ++
    setBytes l.kinds ++ [b8 l.rate.code]

/-! ### The junction description (R4 to R21) -/

/-- JUNCTION_OPEN (R4): taken in DARK and UNCONFIGURED: EDITING with the records kept, UNCONFIGURED, restart-permitted
clear, the MODE report of the change from DARK posted (R168), the cable test abandoned with its injector released and
its release timer from 0 with 100 ms (R148), every debounce stopped; plans, relays and fault list stay. The abandoned
test raises its circuit's abandon count by R159 and R160, which is the model's choice against R146 (log 68); the cable
sections are else as they were. In START-UP, RUN, HOLD and ALL-RED it is refused with WRONG-MODE,
and nothing changes. -/
def Obligations.JunctionOpenTable : Prop :=
  (∀ (tag : Byte) (s : State), takes s 0x01 tag [] = true → s.flt.inbox = [] →
     s.flt.mode = .dark ∨ s.flt.mode = .unconfigured →
     ∃ t, exec (.junctionOpen tag []) s = .next t ∧ Answered s 0x81 tag .ok t ∧
       t.jds = { s.jds with desc := .editing } ∧ t.flt.mode = .unconfigured ∧ t.flt.restartPermitted = false ∧
       t.cbl.test = none ∧
       (∀ c m, s.cbl.test ≠ none → s.cbl.pos = .on c m → t.cbl.pos = .releasing c m false ∧
         t.cbl.release = some ⟨0, 100⟩) ∧
       (∀ w, s.cbl.test = some w → Abandoned s w t) ∧
       (∀ c, (∀ w, s.cbl.test = some w → w.circuit ≠ c) → t.cbl.cable.get c = s.cbl.cable.get c) ∧
       Posted (if s.flt.mode = .dark then [modePosting .dark .unconfigured .none 1 0x01] else []) s t ∧
       (∀ d, (recOf t d).timer = none) ∧ (∀ c, t.osw.relay.get c = s.osw.relay.get c) ∧
       t.plans = s.plans ∧ t.flt.list = s.flt.list ∧ t.flt.overflow = s.flt.overflow ∧
       t.flt.darkCause = s.flt.darkCause) ∧
  ∀ (tag : Byte) (s : State), takes s 0x01 tag [] = true → s.flt.mode ≠ .dark → s.flt.mode ≠ .unconfigured →
    ∃ t, exec (.junctionOpen tag []) s = .next t ∧ Replied s 0x81 tag (.no .wrongMode) s t

/-- JUNCTION_WRITE (R5 to R8, R201): in EDITING the bytes of a record in range are stored as that record, the test
period clamped to 1-60 with the CLAMPED flag, and nothing else changes: GROUP, CIRCUIT, CONFLICT-ROW, INTERGREEN-ROW. An
unknown record kind, an index out of its range, and the first field out of its range are refused with BAD-FIELD naming
them, and nothing is stored. -/
def Obligations.JunctionWriteStoresGroupsAndCircuits : Prop :=
  (∀ (tag : Byte) (g : Group) (r : GroupRec) (s : State), let body := 1 :: number g :: r.bytes
    takes s 0x02 tag body = true → s.jds.desc = .editing →
    20 ≤ r.amber → r.amber ≤ 50 → r.redAmber ≤ 30 → r.clearance ≤ 250 → 40 ≤ r.floor → r.floor ≤ 300 →
    1 ≤ r.redFloor → r.redFloor ≤ 4 →
    ∃ t, exec (.junctionWrite tag body) s = .next t ∧
      Replied s 0x82 tag .ok { s with jds := { s.jds with group := s.jds.group.set g r } } t) ∧
  (∀ (tag : Byte) (c : Circuit) (r : CircuitRec) (s : State), let body := 2 :: number c :: r.bytes
    takes s 0x02 tag body = true → s.jds.desc = .editing →
    1 ≤ r.lamps → r.lamps ≤ 4 → r.reference ≤ 4095 → r.baseline ≤ 4095 → 50 ≤ r.leakLimit → r.leakLimit ≤ 4000 →
    r.testPeriod ≤ 255 →
    ∃ t, exec (.junctionWrite tag body) s = .next t ∧
      Replied s 0x82 tag (.done (decide (r.testPeriod = 0 ∨ 60 < r.testPeriod)) [])
        { s with jds := { s.jds with
            circuit := s.jds.circuit.set c { r with testPeriod := min (max r.testPeriod 1) 60 } } } t) ∧
  (∀ (tag : Byte) (g : Group) (row : Flags 16) (s : State), let body := 3 :: number g :: setBytes row
    takes s 0x02 tag body = true → s.jds.desc = .editing →
    ∃ t, exec (.junctionWrite tag body) s = .next t ∧
      Replied s 0x82 tag .ok { s with jds := { s.jds with conflict := s.jds.conflict.set g row } } t) ∧
  (∀ (tag : Byte) (g : Group) (row : Tab Nat 16) (s : State), let body := 4 :: number g :: row.list.map b8
    takes s 0x02 tag body = true → s.jds.desc = .editing → (∀ n, row.get n ≤ 250) →
    ∃ t, exec (.junctionWrite tag body) s = .next t ∧
      Replied s 0x82 tag .ok { s with jds := { s.jds with intergreen := s.jds.intergreen.set g row } } t) ∧
  (∀ (tag k index : Byte) (f : List Byte) (s : State), let body := k :: index :: f
    takes s 0x02 tag body = true → s.jds.desc = .editing → junctionWriteFits body = true →
    ∃ t, exec (.junctionWrite tag body) s = .next t ∧
      (k.toNat = 0 ∨ 8 < k.toNat → Replied s 0x82 tag (.badField 1) s t) ∧
      (∀ n, (k.toNat, n) ∈ [(1, 16), (2, 48), (3, 16), (4, 16), (5, 12), (6, 24)] →
        index.toNat = 0 ∨ n < index.toNat → Replied s 0x82 tag (.badField 2) s t) ∧
      (k.toNat = 7 ∨ k.toNat = 8 → index.toNat ≠ 0 → Replied s 0x82 tag (.badField 2) s t)) ∧
  (∀ (tag : Byte) (g : Group) (f : List Byte) (item : Nat) (s : State), let body := 1 :: number g :: f
    takes s 0x02 tag body = true → s.jds.desc = .editing → f.length = 7 →
    FirstOut [(3, byteAt f 0 ≤ 2), (4, 20 ≤ byteAt f 1 ∧ byteAt f 1 ≤ 50), (5, byteAt f 2 ≤ 30), (6, byteAt f 3 ≤ 250),
      (7, 40 ≤ wordAt f 4 ∧ wordAt f 4 ≤ 300), (8, 1 ≤ byteAt f 6 ∧ byteAt f 6 ≤ 4)] item →
    ∃ t, exec (.junctionWrite tag body) s = .next t ∧ Replied s 0x82 tag (.badField item) s t) ∧
  (∀ (tag : Byte) (c : Circuit) (f : List Byte) (item : Nat) (s : State), let body := 2 :: number c :: f
    takes s 0x02 tag body = true → s.jds.desc = .editing → f.length = 11 →
    FirstOut [(3, byteAt f 0 ≤ 1), (4, byteAt f 1 ≤ 1), (5, 1 ≤ byteAt f 2 ∧ byteAt f 2 ≤ 4), (6, wordAt f 3 ≤ 4095),
      (7, byteAt f 5 ≤ 2), (8, wordAt f 6 ≤ 4095), (9, 50 ≤ wordAt f 8 ∧ wordAt f 8 ≤ 4000)] item →
    ∃ t, exec (.junctionWrite tag body) s = .next t ∧ Replied s 0x82 tag (.badField item) s t) ∧
  (∀ (tag : Byte) (g n : Group) (f : List Byte) (s : State), let body := 4 :: number g :: f
    takes s 0x02 tag body = true → s.jds.desc = .editing → f.length = 16 → 250 < byteAt f n.val →
    (∀ m : Group, m < n → byteAt f m.val ≤ 250) →
    ∃ t, exec (.junctionWrite tag body) s = .next t ∧ Replied s 0x82 tag (.badField (n.val + 3)) s t)

/-- JUNCTION_WRITE (R5, R9 to R12, R201): the same for STAGE, DETECTOR (debounce clamped to 250), TIMING and RESPONSE;
the first field of a DETECTOR or TIMING record out of its range is refused with BAD-FIELD (a stage-set bit beyond the
twelfth is, by log 19); a RESPONSE write is refused in the order of R12, FIXED-RESPONSE among its refusals; in EMPTY or
ACCEPTED a write of the right length is refused with NOT-OPEN. That the mains frequency is the one byte 50 or 60 is the
model's reading of R200 (log 23). -/
def Obligations.JunctionWriteStoresStagesAndTimings : Prop :=
  (∀ (tag : Byte) (k : Stage) (groups : Flags 16) (s : State), let body := 5 :: number k :: setBytes groups
    takes s 0x02 tag body = true → s.jds.desc = .editing →
    ∃ t, exec (.junctionWrite tag body) s = .next t ∧
      Replied s 0x82 tag .ok { s with jds := { s.jds with stage := s.jds.stage.set k groups } } t) ∧
  (∀ (tag : Byte) (d : Detector) (r : DetRec) (s : State), let body := 6 :: number d :: r.bytes
    takes s 0x02 tag body = true → s.jds.desc = .editing →
    r.debounce ≤ 255 → 1 ≤ r.stuckLimit → r.stuckLimit ≤ 60 → 1 ≤ r.silentLimit → r.silentLimit ≤ 240 →
    (r.kind = .push → r.extend = Tab.const 12 false) →
    ∃ t, exec (.junctionWrite tag body) s = .next t ∧
      Replied s 0x82 tag (.done (decide (250 < r.debounce)) [])
        { s with jds := { s.jds with detector := s.jds.detector.set d { r with debounce := min r.debounce 250 } } } t) ∧
  (∀ (tag : Byte) (r : TimingRec) (s : State), let body := 7 :: 0 :: r.bytes
    takes s 0x02 tag body = true → s.jds.desc = .editing →
    r.mains = 50 ∨ r.mains = 60 → 1000 ≤ r.nominal → r.nominal ≤ 2600 → 30 ≤ r.startUpAllRed →
    r.startUpAllRed ≤ 200 → 2 ≤ r.commitLead → r.commitLead ≤ 10 → 5 ≤ r.redProofLimit → r.redProofLimit ≤ 50 →
    10 ≤ r.pullIn → r.pullIn ≤ 200 → 10 ≤ r.dropOut → r.dropOut ≤ 200 → r.deadTime ≤ 100 →
    100 ≤ r.foreignOpen → r.foreignOpen ≤ 2500 → 50 ≤ r.foreignLoaded → r.foreignLoaded ≤ r.foreignOpen →
    ∃ t, exec (.junctionWrite tag body) s = .next t ∧
      Replied s 0x82 tag .ok { s with jds := { s.jds with timing := r } } t) ∧
  (∀ (tag : Byte) (i : Fin 14) (r : Response) (s : State),
    let body := [8, 0, b8 (responsePairs.get i).1.code, (responsePairs.get i).2.code, r.code]
    takes s 0x02 tag body = true → s.jds.desc = .editing →
    ∃ t, exec (.junctionWrite tag body) s = .next t ∧
      Replied s 0x82 tag .ok { s with jds := { s.jds with response := s.jds.response.set i r } } t) ∧
  (∀ (tag : Byte) (d : Detector) (f : List Byte) (item : Nat) (s : State), let body := 6 :: number d :: f
    takes s 0x02 tag body = true → s.jds.desc = .editing → f.length = 8 →
    FirstOut [(3, byteAt f 0 ≤ 2), (5, wordAt f 2 < 4096), (6, wordAt f 4 < 4096 ∧ (byteAt f 0 = 2 → wordAt f 4 = 0)),
      (7, 1 ≤ byteAt f 6 ∧ byteAt f 6 ≤ 60), (8, 1 ≤ byteAt f 7 ∧ byteAt f 7 ≤ 240)] item →
    ∃ t, exec (.junctionWrite tag body) s = .next t ∧ Replied s 0x82 tag (.badField item) s t) ∧
  (∀ (tag : Byte) (f : List Byte) (item : Nat) (s : State), let body := 7 :: 0 :: f
    takes s 0x02 tag body = true → s.jds.desc = .editing → f.length = 13 →
    FirstOut [(3, byteAt f 0 = 50 ∨ byteAt f 0 = 60), (4, 1000 ≤ wordAt f 1 ∧ wordAt f 1 ≤ 2600),
      (5, 30 ≤ byteAt f 3 ∧ byteAt f 3 ≤ 200), (6, 2 ≤ byteAt f 4 ∧ byteAt f 4 ≤ 10),
      (7, 5 ≤ byteAt f 5 ∧ byteAt f 5 ≤ 50), (8, 10 ≤ byteAt f 6 ∧ byteAt f 6 ≤ 200),
      (9, 10 ≤ byteAt f 7 ∧ byteAt f 7 ≤ 200), (10, byteAt f 8 ≤ 100), (11, 100 ≤ wordAt f 9 ∧ wordAt f 9 ≤ 2500),
      (12, 50 ≤ wordAt f 11 ∧ wordAt f 11 ≤ 2500 ∧ wordAt f 11 ≤ wordAt f 9)] item →
    ∃ t, exec (.junctionWrite tag body) s = .next t ∧ Replied s 0x82 tag (.badField item) s t) ∧
  (∀ (tag k c r : Byte) (s : State), let body := [8, 0, k, c, r]
    takes s 0x02 tag body = true → s.jds.desc = .editing →
    ∃ t, exec (.junctionWrite tag body) s = .next t ∧
      (k.toNat = 0 ∨ 22 < k.toNat → Replied s 0x82 tag (.badField 3) s t) ∧
      ∀ kind : FaultKind, k = b8 kind.code →
        (3 < c.toNat → Replied s 0x82 tag (.badField 4) s t) ∧
        ∀ colour : Colour, c = colour.code →
          let fixed := kind ∉ [FaultKind.relayFailClosed, .relayFailOpen, .lampDegraded, .lampOut, .lampOvercurrent,
              .onWhenOff, .cableOpen, .cableShort, .cableInsulation, .foreignVoltage] ∨
            (kind, colour) ∈ [(FaultKind.relayFailClosed, Colour.green), (.relayFailOpen, .red), (.onWhenOff, .green),
              (.foreignVoltage, .green)]
          (fixed → Replied s 0x82 tag (.no .fixedResponse) s t) ∧
          (¬fixed → (∀ i, responsePairs.get i ≠ (kind, colour)) → Replied s 0x82 tag (.badField 4) s t) ∧
          (∀ i, responsePairs.get i = (kind, colour) → 2 < r.toNat → Replied s 0x82 tag (.badField 5) s t)) ∧
  ∀ (tag : Byte) (body : List Byte) (s : State), takes s 0x02 tag body = true → junctionWriteFits body = true →
    s.jds.desc ≠ .editing →
    ∃ t, exec (.junctionWrite tag body) s = .next t ∧ Replied s 0x82 tag (.no .notOpen) s t

/-- JUNCTION_ACCEPT (R14, R17 to R21): in EDITING, with every check passing and no relay on, the description is
ACCEPTED, the mode DARK with dark cause ACCEPTANCE, the demand set clear; a plan in force whose slot is VALID no longer
becomes none, and the selection is evaluated; the lamp, cable and detector sections start afresh, and the faults of
their kinds are CLEARED; a failing check refuses with its number and subject, and a state other than EDITING with
NOT-OPEN. The reports are posted in R14's order: MODE, PLAN-CHANGE with occasion DESCRIPTION, PLAN-UNAVAILABLE (R72),
the FAULT-CLEARED of R21 in list order. That the evaluated switch count is none and the degraded, out and overcurrent
conditions are absent (log 52: R18 does not list them), and that the plan id byte of a new slot none is 0 (log 43), are
the model's choices. -/
def Obligations.JunctionAcceptTaken : Prop :=
  let afresh := [FaultKind.redOut, .lampDegraded, .lampOut, .lampOvercurrent, .onWhenOff, .cableOpen, .cableShort,
    .cableInsulation, .foreignVoltage, .detectorStuckOn, .detectorSilent, .detectorChatter]
  (∀ (tag : Byte) (s : State), takes s 0x03 tag [] = true → s.jds.desc = .editing → failedCheck s.jds = none →
    s.flt.inbox = [] → s.osw.phase = .outputsOff ∨ s.osw.phase = .contactorRelease →
    ∃ t, exec (.junctionAccept tag []) s = .next t ∧ Answered s 0x83 tag .ok t ∧
      t.jds = { s.jds with desc := .accepted } ∧ t.flt.mode = .dark ∧ t.flt.darkCause = .acceptance ∧
      t.flt.restartPermitted = s.flt.restartPermitted ∧ t.seq.state = .idle ∧
      t.seq.demand = Tab.const 12 false ∧
      (∀ c, t.lmp.lamp.get c =
        if (s.jds.circuit.get c).fitted then
          { state := if (s.jds.circuit.get c).reference = 0 then .learning else .unproven
            p := (s.jds.circuit.get c).reference, k := (s.jds.circuit.get c).lamps }
        else {}) ∧
      (∀ c, t.cbl.cable.get c =
        { dueFrom := ⟨s.uptime, 0⟩, baseline := (s.jds.circuit.get c).baseline }) ∧
      (∀ d, (recOf t d).active = false ∧ (recOf t d).assertSeen = false ∧ (recOf t d).releaseSeen = false ∧
        (recOf t d).captured = .absent ∧ (recOf t d).fault = .none ∧ (recOf t d).activations = 0 ∧
        (recOf t d).silentSince =
          (if (s.jds.detector.get d).kind = .presence then some ⟨s.uptime, 0⟩ else none) ∧
        ((recOf t d).timer ≠ none ↔ (s.jds.detector.get d).kind ≠ .unused ∧ (recOf s d).contact = true)) ∧
      (∀ p, (planAt t p).state = .valid ↔
        (planAt s p).state = .valid ∧ descriptionError { s with jds := t.jds } (planAt s p) = none) ∧
      (∀ p, t.plans.inForce = some p ↔ s.plans.inForce = some p ∧ (planAt t p).state = .valid) ∧
      t.plans.pendingPlan = (if selected t = t.plans.inForce then none else selected t) ∧
      t.flt.list = s.flt.list.map (fun e =>
        if e.state ≠ .cleared ∧ e.kind ∈ afresh then { e with state := .cleared }
        else if e.state = .active ∧ e.kind = .redProofTimeout then { e with state := .pendingRetest } else e) ∧
      let choice := (scheduleChoice s).map fun e => (e, (s.plans.schedule.get e).slot)
      Posted (modePosting s.flt.mode .dark .none 3 0 ::
        (if s.plans.inForce ≠ none ∧ t.plans.inForce = none then
          [(.planChange, false, .none, [number? s.plans.inForce, 0, 3])] else []) ++
        (match choice with
          | some (e, p) => if choice ≠ s.plans.lastChoice ∧ (planAt t p).state ≠ .valid then
              [(.planUnavailable, false, .sched e, [number p])] else []
          | none => []) ++
        (s.flt.list.filter fun e => decide (e.state ≠ .cleared ∧ e.kind ∈ afresh)).map fun e =>
          (.faultCleared, false, reportSubject e.subject, [b8 e.kind.code, 1])) s t) ∧
  (∀ (tag : Byte) (s : State) (n : Nat) (a b : Byte), takes s 0x03 tag [] = true → s.jds.desc = .editing →
    failedCheck s.jds = some (n, a, b) →
    ∃ t, exec (.junctionAccept tag []) s = .next t ∧
      Replied s 0x83 tag (.refused .badField (b8 n) a b) s t) ∧
  (∀ (tag : Byte) (s : State), takes s 0x03 tag [] = true → s.jds.desc ≠ .editing →
    ∃ t, exec (.junctionAccept tag []) s = .next t ∧ Replied s 0x83 tag (.no .notOpen) s t)

/-- R14 to R16: the eight checks, in their order: the first that fails, with its first subject in the order the rule
gives; none when all pass. R15: a description that passes has mutual conflict rows that no group is in itself,
intergreens of conflicting pairs at least the losing group's amber (vehicle) or clearance (pedestrian) and at least 1,
and stages without conflicting groups. -/
def Obligations.AcceptedConflictsAndIntergreens : Prop :=
  ∀ j : Jds,
    let kind := fun g => (j.group.get g).kind
    let fitted := fun c => (j.circuit.get c).fitted = true
    let inStage := fun (k : Stage) (g : Group) => (j.stage.get k).get g = true
    let defined := fun k => ∃ g, inStage k g
    let bad1 := fun g n : Group =>
      if n = g then j.conflicts g g = true else j.conflicts g n ≠ j.conflicts n g
    let bad2 := fun l n : Group => j.conflicts l n = true ∧ ¬(1 ≤ j.ig l n ∧
      (kind l = .vehicle → (j.group.get l).amber ≤ j.ig l n) ∧
      (kind l = .pedestrian → (j.group.get l).clearance ≤ j.ig l n))
    let bad3 := fun c : Circuit => kind (groupOf c) ≠ .unused ∧
      ¬(if aspectOf c = .amber ∧ kind (groupOf c) = .pedestrian then ¬fitted c else fitted c)
    let bad4 := fun c : Circuit => fitted c ∧ kind (groupOf c) = .unused
    let bad5 := fun (k : Stage) (g : Group) => inStage k g ∧
      (kind g = .unused ∨ ∃ n, n ≠ g ∧ inStage k n ∧ j.conflicts g n = true)
    let bad6 := fun (d : Detector) (extend : Bool) (k : Stage) => (j.detector.get d).kind ≠ .unused ∧ ¬defined k ∧
      (if extend then (j.detector.get d).extend else (j.detector.get d).demand).get k = true
    let bad7 := fun g : Group => kind g ≠ .unused ∧
      ¬(1 ≤ (j.group.get g).redFloor ∧ (j.group.get g).redFloor ≤ (j.circuit.get (redOf g)).lamps)
    let ok1 := ∀ g n, ¬bad1 g n
    let ok2 := ok1 ∧ ∀ l n, ¬bad2 l n
    let ok3 := ok2 ∧ ∀ c, ¬bad3 c
    let ok4 := ok3 ∧ ∀ c, ¬bad4 c
    let ok5 := ok4 ∧ ∀ k g, ¬bad5 k g
    let ok6 := ok5 ∧ ∀ d x k, ¬bad6 d x k
    let ok7 := ok6 ∧ ∀ g, ¬bad7 g
    (∀ g n, bad1 g n → (∀ h m, bad1 h m → g < h ∨ (g = h ∧ n ≤ m)) →
      failedCheck j = some (1, number g, number n)) ∧
    (ok1 → ∀ l n, bad2 l n → (∀ h m, bad2 h m → l < h ∨ (l = h ∧ n ≤ m)) →
      failedCheck j = some (2, number l, number n)) ∧
    (ok2 → ∀ c, bad3 c → (∀ e, bad3 e → c ≤ e) → failedCheck j = some (3, number c, 0)) ∧
    (ok3 → ∀ c, bad4 c → (∀ e, bad4 e → c ≤ e) → failedCheck j = some (4, number c, 0)) ∧
    (ok4 → ∀ k g, bad5 k g → (∀ l h, bad5 l h → k < l ∨ (k = l ∧ g ≤ h)) →
      failedCheck j = some (5, number k, number g)) ∧
    (ok5 → ∀ d x k, bad6 d x k →
      (∀ e y l, bad6 e y l → d < e ∨ (d = e ∧ ((x = false ∧ y = true) ∨ (x = y ∧ k ≤ l)))) →
      failedCheck j = some (6, number d, number k)) ∧
    (ok6 → ∀ g, bad7 g → (∀ h, bad7 h → g ≤ h) → failedCheck j = some (7, number g, 0)) ∧
    (ok7 → (∀ k, ¬defined k) → failedCheck j = some (8, 0, 0)) ∧
    (ok7 → (∃ k, defined k) → failedCheck j = none) ∧
    (failedCheck j = none →
      (∀ g, j.conflicts g g = false) ∧ (∀ g n, j.conflicts g n = j.conflicts n g) ∧
      (∀ l n, j.conflicts l n = true → 1 ≤ j.ig l n ∧
        (kind l = .vehicle → (j.group.get l).amber ≤ j.ig l n) ∧
        (kind l = .pedestrian → (j.group.get l).clearance ≤ j.ig l n)) ∧
      (∀ k g n, (j.stage.get k).get g = true → (j.stage.get k).get n = true → g ≠ n → j.conflicts g n = false) ∧
      ∃ k g, (j.stage.get k).get g = true)

/-- The reading requests (R13, R54, R62, R69, R70, R107, R123, R145, R165, R182): JUNCTION_READ, PLAN_READ,
SCHEDULE_READ, CLOCK_READ, STATUS_READ, CIRCUIT_READ, FAULT_LIST_READ, MEASURE_READ: the values held are returned, in
the layouts of `Obligations.ReplyFieldsAreLaidOut`, and nothing changes. The byte of the first entry returned, where
none is, is the entry wanted by the model's choice (log 63). -/
def Obligations.ReadsReturnAndChangeNothing : Prop :=
  (∀ (tag kind index : Byte) (s : State), takes s 0x04 tag [kind, index] = true →
    ∃ t, exec (.junctionRead tag [kind, index]) s = .next t ∧
      (∀ l, recordBytes kind.toNat index.toNat s.jds = some l →
        Replied s 0x84 tag (.gives (s.jds.desc.code :: l)) s t) ∧
      (kind = 0 ∨ 8 < kind.toNat → Replied s 0x84 tag (.badField 1) s t) ∧
      (∀ n, (kind.toNat, n) ∈ [(1, 16), (2, 48), (3, 16), (4, 16), (5, 12), (6, 24), (8, 14)] →
        index = 0 ∨ n < index.toNat → Replied s 0x84 tag (.badField 2) s t) ∧
      (kind = 7 → index ≠ 0 → Replied s 0x84 tag (.badField 2) s t)) ∧
  (∀ (tag : Byte) (p : Slot) (s : State), takes s 0x0B tag [number p] = true →
    ∃ t, exec (.planRead tag [number p]) s = .next t ∧ Replied s 0x8B tag (readPlan p s) s t) ∧
  (∀ (tag : Byte) (s : State), takes s 0x0E tag [] = true →
    ∃ t, exec (.scheduleRead tag []) s = .next t ∧
      Replied s 0x8E tag (.gives (s.plans.schedule.list.flatMap SchedEntry.bytes ++
        [number? (scheduleChoice s), number? (s.plans.lastChoice.map (·.1)),
          number? (s.plans.lastChoice.map (·.2))])) s t) ∧
  (∀ (tag : Byte) (s : State), takes s 0x10 tag [] = true →
    ∃ t, exec (.clockRead tag []) s = .next t ∧
      ∃ b, Replied s 0x90 tag (.gives b) s t ∧
        (s.plans.clock = none → b.head? = some 0) ∧
        ∀ x, s.plans.clock = some x → b = [1, number x.day, b8 x.hours, b8 x.minutes, b8 x.seconds]) ∧
  (∀ (tag : Byte) (s : State), takes s 0x20 tag [] = true →
    ∃ t, exec (.statusRead tag []) s = .next t ∧ Replied s 0xA0 tag (.gives (statusFields s)) s t) ∧
  (∀ (tag : Byte) (c : Circuit) (s : State), takes s 0x28 tag [number c] = true →
    ∃ t, exec (.circuitRead tag [number c]) s = .next t ∧
      Replied s 0xA8 tag (.gives (number c :: relayBytes s (relayAt s c) ++ lampBytes s (lampOf s c) ++
        cableBytes s c)) s t) ∧
  (∀ (tag : Byte) (s : State), takes s 0x30 tag [] = true →
    ∃ t, exec (.faultListRead tag []) s = .next t ∧
      Replied s 0xB0 tag (.gives ([b8 s.flt.list.length, flagByte s.flt.overflow, 1] ++
        (s.flt.list.take 19).flatMap FEntry.bytes)) s t) ∧
  (∀ (tag : Byte) (n : Fin 32) (s : State), takes s 0x30 tag [number n] = true →
    ∃ t, exec (.faultListRead tag [number n]) s = .next t ∧
      Replied s 0xB0 tag (.gives ([b8 s.flt.list.length, flagByte s.flt.overflow, number n] ++
        ((s.flt.list.drop n.val).take 19).flatMap FEntry.bytes)) s t) ∧
  (∀ (tag : Byte) (s : State), takes s 0x33 tag [] = true →
    ∃ t, exec (.measureRead tag []) s = .next t ∧ Replied s 0xB3 tag (.gives (measureFields s)) s t) ∧
  ∀ (tag b : Byte) (s : State),
    (takes s 0x0B tag [b] = true → b = 0 ∨ 4 < b.toNat →
      ∃ t, exec (.planRead tag [b]) s = .next t ∧ Replied s 0x8B tag (.badField 1) s t) ∧
    (takes s 0x28 tag [b] = true → b = 0 ∨ 48 < b.toNat →
      ∃ t, exec (.circuitRead tag [b]) s = .next t ∧ Replied s 0xA8 tag (.badField 1) s t) ∧
    (takes s 0x30 tag [b] = true → b = 0 ∨ 32 < b.toNat →
      ∃ t, exec (.faultListRead tag [b]) s = .next t ∧ Replied s 0xB0 tag (.badField 1) s t)

/-- R200 to R206: the encodings and the layouts of the replies, field by field: a set has its first member in the
lowest bit of its last byte, a flag named first is the lowest bit, an enumerated value is its position in its table;
the records of JUNCTION-READ (R201), PLAN-READ (R62, R202), STATUS-READ (R54, R203), CIRCUIT-READ (R205), DETECTOR-READ
(R204), a fault list entry and MEASURE-READ (R123, R206). Behind a presence byte of 0 the bytes are free (log 22); an
EMPTY slot's channel and circuit of 0, a RELEASING injector's mode, the unit and limit of the time since the interstage
start, and the one byte of the mains frequency are the model's (logs 21, 58, 17, 23). -/
def Obligations.ReplyFieldsAreLaidOut : Prop :=
  (∀ n, n < 65536 → (be16 n).length = 2 ∧ wordAt (be16 n) 0 = n) ∧
  (∀ (n : Nat) (t : Flags n), n ≤ 16 → (setBytes t).length = 2 ∧ wordAt (setBytes t) 0 < 2 ^ n ∧
    ∀ i : Fin n, (wordAt (setBytes t) 0).testBit i.val = t.get i) ∧
  (∀ (t : Flags 48) (c : Circuit), (circuitSetBytes t).length = 6 ∧
    ((circuitSetBytes t).getD (5 - c.val / 8) 0).getLsbD (c.val % 8) = t.get c) ∧
  (∀ l : List Bool, l.length ≤ 8 → ∀ i, (packByte l).getLsbD i = l.getD i false) ∧
  (∀ (s : State) (x : Stamp), uptime? s (some x) = 1 :: be32 x.recorded.toNat ∧ (be32 x.recorded.toNat).length = 4 ∧
    65536 * wordAt (be32 x.recorded.toNat) 0 + wordAt (be32 x.recorded.toNat) 2 = x.recorded.toNat ∧
    (uptime? s none).length = 5 ∧ (uptime? s none).head? = some 0) ∧
  [FaultKind.conflict, .relayFailClosed, .relayFailOpen, .contactorFailClosed, .contactorFailOpen, .signalsOff, .redOut,
    .redProofTimeout, .lampDegraded, .lampOut, .lampOvercurrent, .onWhenOff, .cableOpen, .cableShort, .cableInsulation,
    .foreignVoltage, .injectorStuck, .measurementFault, .supplyLoss, .detectorStuckOn, .detectorSilent,
    .detectorChatter].map FaultKind.code = (List.range 22).map (· + 1) ∧
  (∀ (j : Jds) (g : Group) (c : Circuit) (k : Stage) (d : Detector) (i : Fin 14),
    let x := j.group.get g
    let y := j.circuit.get c
    let z := j.detector.get d
    let w := j.timing
    j.desc.code = position [.empty, .editing, .accepted] j.desc ∧
    recordBytes 1 (g.val + 1) j = some ([position [.unused, .vehicle, .pedestrian] x.kind, b8 x.amber, b8 x.redAmber,
      b8 x.clearance] ++ be16 x.floor ++ [b8 x.redFloor]) ∧
    recordBytes 2 (c.val + 1) j = some ([flagByte y.fitted, position [.filament, .led] y.technology, b8 y.lamps] ++
      be16 y.reference ++ [position [.on, .off, .byTechnology] y.loopCheck] ++ be16 y.baseline ++ be16 y.leakLimit ++
      [b8 y.testPeriod]) ∧
    recordBytes 3 (g.val + 1) j = some (setBytes (j.conflict.get g)) ∧
    recordBytes 4 (g.val + 1) j = some ((j.intergreen.get g).list.map b8) ∧
    recordBytes 5 (k.val + 1) j = some (setBytes (j.stage.get k)) ∧
    recordBytes 6 (d.val + 1) j = some ([position [.unused, .presence, .push] z.kind, b8 z.debounce] ++
      setBytes z.demand ++ setBytes z.extend ++ [b8 z.stuckLimit, b8 z.silentLimit]) ∧
    recordBytes 7 0 j = some ([b8 w.mains] ++ be16 w.nominal ++ [b8 w.startUpAllRed, b8 w.commitLead,
      b8 w.redProofLimit, b8 w.pullIn, b8 w.dropOut, b8 w.deadTime] ++ be16 w.foreignOpen ++ be16 w.foreignLoaded) ∧
    ∀ p, [(FaultKind.relayFailClosed, Colour.red), (.relayFailClosed, .amber), (.relayFailOpen, .amber),
        (.relayFailOpen, .green), (.lampDegraded, .any), (.lampOut, .any), (.lampOvercurrent, .any), (.onWhenOff, .red),
        (.onWhenOff, .amber), (.cableOpen, .any), (.cableShort, .any), (.cableInsulation, .any), (.foreignVoltage, .red),
        (.foreignVoltage, .amber)][i.val]? = some p →
      responsePairs.get i = p ∧
      recordBytes 8 (i.val + 1) j = some [b8 p.1.code, position [.red, .amber, .green, .any] p.2,
        position [.report, .allRed, .dark] (j.response.get i)]) ∧
  (∀ (p : Slot) (s : State), let x := planAt s p
    readPlan p s = .gives (position [.empty, .editing, .valid, .invalid] x.state ::
      (match x.error with
        | none => ([0, 0, 0] : List Byte)
        | some e => [b8 e.check, number? e.entry, number? e.group]) ++
      [b8 x.id, position [.fixedTime, .demand] x.mode, b8 x.length] ++
      x.entries.list.flatMap (fun e => [number e.stage] ++ be16 e.minGreen ++ be16 e.maxGreen ++ [b8 e.gap] ++
        be16 e.fixed ++ [flagByte e.always]) ++
      [packByte [decide (s.plans.inForce = some p), decide (s.plans.pendingPlan = some p),
        decide (s.plans.override = some p)]])) ∧
  (∀ x : SchedEntry, x.bytes = [flagByte x.used, packByte x.days.list, b8 x.hours, b8 x.minutes, number x.slot]) ∧
  (∀ s : State, let q := s.seq
    let k := s.osw.contactor
    statusFields s =
      [position [.unconfigured, .dark, .startUp, .run, .hold, .allRed] s.flt.mode, flagByte s.flt.restartPermitted,
        (match s.flt.darkCause with
          | .none => 0 | .host => 0x40 | .acceptance => 0x41 | .fault k => b8 k.code : Byte),
        flagByte s.flt.overflow, b8 (s.flt.list.filter fun e => e.state = .active).length,
        position [.empty, .editing, .accepted] s.jds.desc,
        number? s.plans.inForce, number? s.plans.pendingPlan, number? s.plans.override,
        (match s.plans.inForce with | some p => b8 (planAt s p).id | none => 0 : Byte),
        position [.idle, .startAllRed, .stage, .commit, .interstage, .allRedHeld] q.state,
        (match q.substate with | some x => position [.minimum, .running, .resting] x | none => 0xFF : Byte),
        number? q.current, number? q.position] ++
      (match q.elapsed with | some ms => be16 (min (ms / 100) 65534) | none => [0xFF, 0xFF] : List Byte) ++
      (match q.target with | .none => [0, 0, 0] | .stage x e => [1, number x, number e] | .empty => [2, 0, 0] : List Byte) ++
      [number? q.pendingAdvance] ++ setBytes q.demand ++
      q.commanded.list.map (position [.off, .red, .redAmber, .green, .amber]) ++
      (allFin 16).map (fun g => packByte ([redOf g, amberOf g, greenOf g].map fun c =>
        decide (k.state ≠ .open) && decide (relayState s c ≠ .open))) ++
      setBytes (Tab.ofFn fun g : Group => (s.lmp.lamp.get (redOf g)).proof) ++ circuitSetBytes q.switchOn ++
      [packByte [k.commanded, k.feedback],
        position [.open, .closing, .closed, .opening, .failedClosed, .failedOpen] k.state] ++ uptime? s k.lastChange ++
      [position [.outputsOff, .redsFirst, .live, .contactorRelease] s.osw.phase] ++
      (match s.cbl.pos with
        | .free => [0, 0, 0xFF]
        | .on c m => [1, number c, position [.load, .test] m]
        | .releasing c m _ => [2, number c, position [.load, .test] m] : List Byte) ++
      (match s.cbl.test with
        | none => [0, 0]
        | some w => [number w.circuit, match w.step with
          | .openV => 1 | .loadSettle | .loadedV => 2 | .testSettle | .loop | .leak => 3] : List Byte) ++
      (if q.state = .interstage then
        be16 (match q.start with | some x => min (x.elapsed / 100) 65534 | none => 0) else [0xFF, 0xFF] : List Byte) ++
      b8 q.timetable.length :: q.timetable.flatMap (fun e => [b8 e.offset, number e.group,
        position [.off, .red, .redAmber, .green, .amber] e.state, position [.pending, .held, .issued] e.status])) ∧
  (∀ (s : State) (r : Relay) (x : Lamp) (c : Circuit), let y := cableAt s c
    let run := fun z : CauseRun => [b8 z.fail, b8 z.pass, flagByte z.confirmed]
    relayBytes s r =
      [packByte [r.coil.commanded, r.coil.feedback, r.entering, r.releaseAsked],
        position [.open, .closing, .closed, .opening, .failedClosed, .failedOpen] r.coil.state] ++
      be16 r.switchCount.toNat ++ uptime? s r.coil.lastChange ∧
    lampBytes s x =
      [position [.learning, .unproven, .proven, .degraded, .out] x.state] ++ be16 x.p ++
      (match x.avg with | some a => be16 a | none => [0xFF, 0xFF] : List Byte) ++
      [(match x.e with | some e => b8 e | none => 0xFF : Byte), b8 x.k, b8 x.downRun, b8 x.upRun, b8 x.learn] ++
      evalCountBytes s x.evalCount ++
      [packByte [x.proof, x.redOut, x.degraded, x.out, x.overcurrent], b8 x.overRun, flagByte x.onWhenOff, b8 x.highRun,
        b8 x.lowRun, (match x.cause with | some z => position [.lamp, .cable, .unknown] z | none => 0xFF : Byte),
        (match x.retest with | some n => b8 n | none => 0xFF : Byte),
        (match x.offRetest with | some n => b8 n | none => 0xFF : Byte)] ∧
    (evalCountBytes s none).length = 3 ∧ (evalCountBytes s none).head? = some 0 ∧
    (∀ n, evalCountBytes s (some n) = 1 :: be16 n.toNat) ∧
    cableBytes s c =
      [position [.untested, .healthy, .suspect, .faulty, .suspended] (cableState s c),
        packByte [y.suspended, y.induced, y.retestDue, y.overdue]] ++
      [y.openV, y.loadedV, y.loop, y.leak].flatMap (fun v => (match v with | some n => be16 n | none => [0xFF, 0xFF] : List Byte)) ++
      run y.openRun ++ run y.shortRun ++ run y.insulationRun ++ run y.foreignRun ++ uptime? s y.lastTest ++
      [b8 y.abandons] ++ be16 y.baseline ++
      [match s.cbl.test with
        | none => (0 : Byte)
        | some w => if w.circuit = c then (match w.step with
          | .openV => 1 | .loadSettle | .loadedV => 2 | .testSettle | .loop | .leak => 3) else 0]) ∧
  (∀ (s : State) (d : Detector), let x := recOf s d
    detBytes s d =
      [position [.unused, .presence, .push] (s.jds.detector.get d).kind, if x.active then (0 : Byte) else 1,
        packByte [x.assertSeen, x.releaseSeen],
        (match x.captured with | .absent => 0xFF | .noStage => 0 | .stage k => number k)] ++
      (match x.capturedTime with | some n => be16 n | none => [0xFF, 0xFF] : List Byte) ++
      [position [.none, .stuckOn, .silent, .chatter] x.fault, packByte [x.stuckOn, x.silent, x.chatter], number d]) ∧
  (∀ e : FEntry, e.bytes =
    [b8 e.kind.code,
      (match e.subject with | .none => 0 | .group g => number g | .circuit c => number c | .detector d => number d : Byte),
      position [.active, .cleared, .pendingRetest] e.state] ++ be32 e.first.toNat ++ be32 e.last.toNat ++
    [b8 e.occurrences]) ∧
  (∀ s : State, let m := s.mea
    let word := fun v : Option Nat => (match v with | some n => be16 n | none => [0xFF, 0xFF] : List Byte)
    let channel := fun ch : Channel => (match ch with
      | .current c => [number c, number c]
      | .voltage c => [b8 (49 + c.val), number c]
      | .loop c => [97, number c]
      | .leak c => [98, number c]
      | .offset => [99, 0]
      | .ref => [100, 0]
      | .supply => [101, 0] : List Byte)
    let slot := fun x : SlotContent => (match x with
      | .empty => [0, 0, 0]
      | .waiting r => 1 :: channel r.channel
      | .converting r => 2 :: channel r.channel : List Byte)
    measureFields s =
      (match m.bypass with | some v => be16 v | none => be16 m.measured) ++ [b8 m.measured] ++ word m.lastOffset ++
      (match m.bypass with | some v => 1 :: be16 v | none => [0, 0xFF, 0xFF] : List Byte) ++
      [b8 m.offBad, b8 m.offGood, flagByte m.offCond] ++ word m.lastRef ++
      [b8 m.refBad, b8 m.refGood, flagByte m.refCond] ++ be16 m.s ++
      [position [.absent, .low, .normal] m.supply, b8 m.supAbsent, b8 m.supNormal, flagByte m.lossCond] ++
      slot m.proof ++ slot m.routine ++ slot m.cbl ++ slot m.diag ++ convBytes s m.conv ++
      [if m.lastCbl then (1 : Byte) else 0, packByte [m.dueSupply, m.dueRef, m.dueOffset]] ∧
    (convBytes s none).length = 8 ∧ (convBytes s none).head? = some 0xFF ∧
    ∀ v, convBytes s (some v) =
      [position [.proof, .routine, .cbl, .diag] v.slot, 1] ++ be32 v.start.toNat ++ be16 v.window)

/-! ### Plans, schedule and clock (R55 to R72) -/

/-- PLAN_OPEN (R57), every row of its table: a slot outside 1-4; a slot in force or pending; another slot EDITING;
otherwise every field cleared and the slot EDITING. -/
def Obligations.PlanOpenTable : Prop :=
  (∀ (tag b : Byte) (s : State), takes s 0x08 tag [b] = true → b.toNat = 0 ∨ 4 < b.toNat →
    ∃ t, exec (.planOpen tag [b]) s = .next t ∧ Replied s 0x88 tag (.badField 1) s t) ∧
  ∀ (tag : Byte) (p : Slot) (s : State), takes s 0x08 tag [number p] = true →
    ∃ t, exec (.planOpen tag [number p]) s = .next t ∧
      if s.plans.inForce = some p ∨ s.plans.pendingPlan = some p then Replied s 0x88 tag (.no .slotInUse) s t
      else if ∃ q, q ≠ p ∧ (planAt s q).state = .editing then Replied s 0x88 tag (.no .otherSlotOpen) s t
      else Replied s 0x88 tag .ok
        { s with plans := { s.plans with
            slot := s.plans.slot.set p
              { state := .editing, error := none, id := 0, mode := .demand, length := 0
                entries := Tab.const 12 ⟨0, 40, 40, 5, 40, false⟩ } } } t

/-- PLAN_WRITE_HEADER, PLAN_WRITE_SEQUENCE, PLAN_WRITE_ENTRY_TIMING (R58, R59, R202): with the slot EDITING and the
fields in range each replaces its part of the slot, whole, without clamp, and nothing else. A slot outside 1-4 is
refused with BAD-FIELD, a slot not EDITING with NOT-OPEN, an unknown write kind and the first field out of its range
with BAD-FIELD naming it, and nothing is stored. -/
def Obligations.PlanWritesReplaceTheirPart : Prop :=
  (∀ (tag : Byte) (p : Slot) (id : Byte) (m : PlanMode) (s : State), let body := [number p, 1, id, m.code]
    takes s 0x09 tag body = true → (planAt s p).state = .editing → id ≠ 0 →
    ∃ t, exec (.planWriteHeader tag body) s = .next t ∧
      Replied s 0x89 tag .ok { s with plans := { s.plans with
        slot := s.plans.slot.set p { planAt s p with id := id.toNat, mode := m } } } t) ∧
  (∀ (tag : Byte) (p : Slot) (l : List Stage) (s : State),
    let body := number p :: 2 :: b8 l.length :: l.map fun k => number k
    takes s 0x09 tag body = true → (planAt s p).state = .editing → 1 ≤ l.length → l.length ≤ 12 →
    ∃ t x, exec (.planWriteSequence tag body) s = .next t ∧
      Replied s 0x89 tag .ok { s with plans := { s.plans with slot := s.plans.slot.set p x } } t ∧
      x = { planAt s p with length := l.length, entries := x.entries } ∧
      ∀ e : Entry, x.entries.get e =
        { (planAt s p).entries.get e with stage := (l[e.val]?).getD ((planAt s p).entries.get e).stage }) ∧
  (∀ (tag : Byte) (p : Slot) (e : Entry) (x : PlanEntry) (s : State),
    let body := number p :: 3 :: number e :: be16 x.minGreen ++ be16 x.maxGreen ++ [b8 x.gap] ++ be16 x.fixed ++
      [flagByte x.always]
    takes s 0x09 tag body = true → (planAt s p).state = .editing →
    40 ≤ x.minGreen → x.minGreen ≤ 600 → 40 ≤ x.maxGreen → x.maxGreen ≤ 1200 → 5 ≤ x.gap → x.gap ≤ 255 →
    40 ≤ x.fixed → x.fixed ≤ 1200 →
    ∃ t, exec (.planWriteEntryTiming tag body) s = .next t ∧
      Replied s 0x89 tag .ok { s with plans := { s.plans with
        slot := s.plans.slot.set p { planAt s p with
          entries := (planAt s p).entries.set e
            { x with stage := ((planAt s p).entries.get e).stage } } } } t) ∧
  (∀ (tag a : Byte) (f : List Byte) (i : Instr) (s : State), let body := a :: f
    takes s 0x09 tag body = true →
    (i = .planWriteHeader tag body ∧ ((∃ id m, f = [1, id, m]) ∨ ∃ k l, f = k :: l ∧ k ≠ 1 ∧ k ≠ 2 ∧ k ≠ 3)) ∨
      (i = .planWriteSequence tag body ∧ ∃ l : List Byte, l.length < 256 ∧ f = 2 :: b8 l.length :: l) ∨
      (i = .planWriteEntryTiming tag body ∧ ∃ l : List Byte, l.length = 9 ∧ f = 3 :: l) →
    ∃ t, exec i s = .next t ∧
      (a.toNat = 0 ∨ 4 < a.toNat → Replied s 0x89 tag (.badField 1) s t) ∧
      (∀ p : Slot, a = number p → (planAt s p).state ≠ .editing → Replied s 0x89 tag (.no .notOpen) s t)) ∧
  (∀ (tag k : Byte) (p : Slot) (f : List Byte) (s : State), let body := number p :: k :: f
    takes s 0x09 tag body = true → (planAt s p).state = .editing → k ≠ 1 → k ≠ 2 → k ≠ 3 →
    ∃ t, exec (.planWriteHeader tag body) s = .next t ∧ Replied s 0x89 tag (.badField 2) s t) ∧
  (∀ (tag id m : Byte) (p : Slot) (item : Nat) (s : State), let body := [number p, 1, id, m]
    takes s 0x09 tag body = true → (planAt s p).state = .editing →
    FirstOut [(3, id ≠ 0), (4, m.toNat ≤ 1)] item →
    ∃ t, exec (.planWriteHeader tag body) s = .next t ∧ Replied s 0x89 tag (.badField item) s t) ∧
  (∀ (tag : Byte) (p : Slot) (f : List Byte) (s : State), let body := number p :: 2 :: b8 f.length :: f
    let ok := fun i => 1 ≤ byteAt f i ∧ byteAt f i ≤ 12
    takes s 0x09 tag body = true → (planAt s p).state = .editing → f.length < 256 →
    ∃ t, exec (.planWriteSequence tag body) s = .next t ∧
      (f.length = 0 ∨ 12 < f.length → Replied s 0x89 tag (.badField 3) s t) ∧
      (∀ i, f.length ≤ 12 → i < f.length → ¬ok i → (∀ j, j < i → ok j) →
        Replied s 0x89 tag (.badField (i + 4)) s t)) ∧
  (∀ (tag e : Byte) (p : Slot) (f : List Byte) (item : Nat) (s : State), let body := number p :: 3 :: e :: f
    takes s 0x09 tag body = true → (planAt s p).state = .editing → f.length = 8 →
    FirstOut [(3, 1 ≤ e.toNat ∧ e.toNat ≤ 12), (4, 40 ≤ wordAt f 0 ∧ wordAt f 0 ≤ 600),
      (5, 40 ≤ wordAt f 2 ∧ wordAt f 2 ≤ 1200), (6, 5 ≤ byteAt f 4), (7, 40 ≤ wordAt f 5 ∧ wordAt f 5 ≤ 1200)] item →
    ∃ t, exec (.planWriteEntryTiming tag body) s = .next t ∧ Replied s 0x89 tag (.badField item) s t)

/-- PLAN_CLOSE (R60, R61): the two clamps on the entries of the sequence, then the six checks in their order, each with
its subject: VALID with no error, or INVALID with the failing check; the reply carries the state and the error, CLAMPED
if a clamp changed an entry; the plan in force stays, the other slots stay, and the selection is evaluated. A slot
outside 1-4 is refused with BAD-FIELD, a slot that is not EDITING with NOT-OPEN, and nothing changes. -/
def Obligations.PlanCloseValidates : Prop :=
  (∀ (tag b : Byte) (s : State), takes s 0x0A tag [b] = true → (∀ p : Slot, b ≠ number p) →
    ∃ t, exec (.planClose tag [b]) s = .next t ∧ Replied s 0x8A tag (.badField 1) s t) ∧
  (∀ (tag : Byte) (p : Slot) (s : State), takes s 0x0A tag [number p] = true → (planAt s p).state ≠ .editing →
    ∃ t, exec (.planClose tag [number p]) s = .next t ∧ Replied s 0x8A tag (.no .notOpen) s t) ∧
  ∀ (tag : Byte) (p : Slot) (s : State), takes s 0x0A tag [number p] = true → (planAt s p).state = .editing →
    ∃ t x, exec (.planClose tag [number p]) s = .next t ∧ planAt t p = x ∧
      (∀ e : Entry, x.entries.get e =
        if e.val < (planAt s p).length then
          { (planAt s p).entries.get e with
            maxGreen := max ((planAt s p).entries.get e).maxGreen ((planAt s p).entries.get e).minGreen
            gap := min ((planAt s p).entries.get e).gap 100 }
        else (planAt s p).entries.get e) ∧
      x.id = (planAt s p).id ∧ x.mode = (planAt s p).mode ∧ x.length = (planAt s p).length ∧
      (let n := (planAt s p).length
        let stage := fun e : Entry => (x.entries.get e).stage
        let repeats := fun e : Entry => e.val < n ∧ 2 ≤ n ∧ ∃ d : Entry, d.val = (e.val + 1) % n ∧ stage d = stage e
        let missing := fun e : Entry => e.val < n ∧ s.jds.stage.get (stage e) = Tab.const 16 false
        let short := fun (e : Entry) (g : Group) => e.val < n ∧ (s.jds.stage.get (stage e)).get g = true ∧
          (x.entries.get e).minGreen < (s.jds.group.get g).floor
        if s.jds.desc ≠ .accepted then x.error = some ⟨1, none, none⟩
        else if (planAt s p).id = 0 then x.error = some ⟨2, none, none⟩
        else if n = 0 then x.error = some ⟨3, none, none⟩
        else n ≤ 12 →
          (∀ e, repeats e → (∀ d, d < e → ¬repeats d) → x.error = some ⟨4, some e, none⟩) ∧
          ((∀ e, ¬repeats e) → ∀ e, missing e → (∀ d, d < e → ¬missing d) → x.error = some ⟨5, some e, none⟩) ∧
          ((∀ e, ¬repeats e) → (∀ e, ¬missing e) → ∀ e g, short e g →
            (∀ d h, short d h → e < d ∨ (e = d ∧ g ≤ h)) → x.error = some ⟨6, some e, some g⟩) ∧
          ((∀ e, ¬repeats e) → (∀ e, ¬missing e) → (∀ e g, ¬short e g) → x.error = none)) ∧
      x.state = (if x.error = none then .valid else .invalid) ∧
      Answered s 0x8A tag
        (.done (decide (x.entries ≠ (planAt s p).entries)) (x.state.code :: closeErrorBytes x.error)) t ∧
      (∀ q, q ≠ p → planAt t q = planAt s q) ∧ t.plans.inForce = s.plans.inForce ∧
      t.plans.pendingPlan = (if selected t = t.plans.inForce then none else selected t) ∧
      t.jds = s.jds ∧ t.seq = s.seq ∧ t.flt = s.flt

/-- R64: the selected slot is the override where VALID, else the slot of the schedule's choice where VALID, else the
lowest-numbered VALID slot, else none; the evaluation makes it pending unless it is in force, and never changes the
plan in force. R71: the schedule's choice, with the clock set, lies the fewest days back, up to seven, on which a used
entry whose mask includes the day offers a start, on the day itself one not after now; of those the latest start, of
equals the lowest number. R72: the last activated choice becomes the choice, with its slot; a choice that differs from
the last and names a slot that is not VALID posts PLAN-UNAVAILABLE, and nothing else is posted. -/
def Obligations.SelectionEvaluation : Prop :=
  ∀ s : State,
    let valid := fun p => (planAt s p).state = SlotState.valid
    let chosen := (scheduleChoice s).map fun e => (s.plans.schedule.get e).slot
    (∀ p, s.plans.override = some p → valid p → selected s = some p) ∧
    ((∀ p, s.plans.override = some p → ¬valid p) → ∀ p, chosen = some p → valid p → selected s = some p) ∧
    ((∀ p, s.plans.override = some p → ¬valid p) → (∀ p, chosen = some p → ¬valid p) →
      (∀ p, selected s = some p ↔ valid p ∧ ∀ q, q < p → ¬valid q)) ∧
    (evaluate s).plans.pendingPlan = (if selected s = s.plans.inForce then none else selected s) ∧
    (evaluate s).plans.inForce = s.plans.inForce ∧ (evaluate s).seq = s.seq ∧ (evaluate s).flt = s.flt ∧
    (s.plans.clock = none → scheduleChoice s = none) ∧
    (∀ x : Tod, s.plans.clock = some x →
      let start := fun e => 60 * (s.plans.schedule.get e).hours + (s.plans.schedule.get e).minutes
      let offers := fun (n : Nat) (e : SchedIx) => n ≤ 7 ∧ (s.plans.schedule.get e).used = true ∧
        (∃ d : Fin 7, (d.val + n) % 7 = x.day.val ∧ (s.plans.schedule.get e).days.get d = true) ∧
        (n = 0 → start e ≤ 60 * x.hours + x.minutes)
      ∀ e, scheduleChoice s = some e ↔ ∃ n, offers n e ∧ ∀ m f, offers m f →
        n < m ∨ (n = m ∧ (start f < start e ∨ (start f = start e ∧ e ≤ f)))) ∧
    let choice := (scheduleChoice s).map fun e => (e, (s.plans.schedule.get e).slot)
    (evaluate s).plans.lastChoice = choice ∧
    (∀ e p, choice = some (e, p) → choice ≠ s.plans.lastChoice → ¬valid p →
      (evaluate s).lnk = (post .planUnavailable false (.sched e) [number p] s).lnk) ∧
    (choice = s.plans.lastChoice ∨ choice = none ∨ (∃ e p, choice = some (e, p) ∧ valid p) →
      (evaluate s).lnk = s.lnk)

/-- PLAN_SELECT, SCHEDULE_WRITE, CLOCK_SET (R66, R69, R70): each stores what it names, leaves the plan in force, and
evaluates the selection; a slot above 4, and a field out of its range, is refused with BAD-FIELD (of several the first
in the order of the layout: log 65, the model's choice), and nothing changes. CLOCK_SECOND (R65, R69): the next second,
minute, hour and day, wrapping after 23:59:59 and after day 7; only a whole minute evaluates the selection. -/
def Obligations.SelectScheduleAndClock : Prop :=
  (∀ (tag : Byte) (o : Option Slot) (s : State), takes s 0x0C tag [number? o] = true →
    ∃ t, exec (.planSelect tag [number? o]) s = .next t ∧ Answered s 0x8C tag .ok t ∧
      t.plans.override = o ∧ t.plans.slot = s.plans.slot ∧ t.plans.inForce = s.plans.inForce ∧
      t.plans.schedule = s.plans.schedule ∧ t.plans.clock = s.plans.clock ∧
      t.plans.pendingPlan = (if selected t = t.plans.inForce then none else selected t) ∧
      t.seq = s.seq ∧ t.flt = s.flt) ∧
  (∀ (tag : Byte) (e : SchedIx) (x : SchedEntry) (s : State), let body := number e :: x.bytes
    takes s 0x0D tag body = true → x.hours ≤ 23 → x.minutes ≤ 59 →
    ∃ t, exec (.scheduleWrite tag body) s = .next t ∧ Answered s 0x8D tag .ok t ∧
      t.plans.schedule = s.plans.schedule.set e x ∧ t.plans.slot = s.plans.slot ∧
      t.plans.inForce = s.plans.inForce ∧ t.plans.override = s.plans.override ∧ t.plans.clock = s.plans.clock ∧
      t.plans.pendingPlan = (if selected t = t.plans.inForce then none else selected t) ∧
      t.seq = s.seq ∧ t.flt = s.flt) ∧
  (∀ (tag : Byte) (x : Tod) (s : State), let body := [number x.day, b8 x.hours, b8 x.minutes, b8 x.seconds]
    takes s 0x0F tag body = true → x.hours ≤ 23 → x.minutes ≤ 59 → x.seconds ≤ 59 →
    ∃ t, exec (.clockSet tag body) s = .next t ∧ Answered s 0x8F tag .ok t ∧
      t.plans.clock = some x ∧ t.plans.slot = s.plans.slot ∧ t.plans.schedule = s.plans.schedule ∧
      t.plans.inForce = s.plans.inForce ∧ t.plans.override = s.plans.override ∧
      t.plans.pendingPlan = (if selected t = t.plans.inForce then none else selected t) ∧
      t.seq = s.seq ∧ t.flt = s.flt) ∧
  (∀ (tag b : Byte) (s : State), takes s 0x0C tag [b] = true → 4 < b.toNat →
    ∃ t, exec (.planSelect tag [b]) s = .next t ∧ Replied s 0x8C tag (.badField 1) s t) ∧
  (∀ (tag : Byte) (body : List Byte) (item : Nat) (s : State), takes s 0x0D tag body = true → body.length = 6 →
    FirstOut [(1, 1 ≤ byteAt body 0 ∧ byteAt body 0 ≤ 16), (4, byteAt body 3 ≤ 23), (5, byteAt body 4 ≤ 59),
      (6, 1 ≤ byteAt body 5 ∧ byteAt body 5 ≤ 4)] item →
    ∃ t, exec (.scheduleWrite tag body) s = .next t ∧ Replied s 0x8D tag (.badField item) s t) ∧
  (∀ (tag : Byte) (body : List Byte) (item : Nat) (s : State), takes s 0x0F tag body = true → body.length = 4 →
    FirstOut [(1, 1 ≤ byteAt body 0 ∧ byteAt body 0 ≤ 7), (2, byteAt body 1 ≤ 23), (3, byteAt body 2 ≤ 59),
      (4, byteAt body 3 ≤ 59)] item →
    ∃ t, exec (.clockSet tag body) s = .next t ∧ Replied s 0x8F tag (.badField item) s t) ∧
  ∀ (x : Tod) (s : State), s.plans.clock = some x → 1000 ≤ s.plans.clockMs →
    x.hours ≤ 23 → x.minutes ≤ 59 → x.seconds ≤ 59 →
    ∃ t y, exec .clockSecond s = .next t ∧ t.plans.clock = some y ∧
      t.plans.clockMs = s.plans.clockMs - 1000 ∧
      ((y.day.val * 24 + y.hours) * 60 + y.minutes) * 60 + y.seconds =
        (((x.day.val * 24 + x.hours) * 60 + x.minutes) * 60 + x.seconds + 1) % 604800 ∧
      y.hours ≤ 23 ∧ y.minutes ≤ 59 ∧ y.seconds ≤ 59 ∧
      (y.seconds ≠ 0 → t.plans = { s.plans with clock := t.plans.clock, clockMs := t.plans.clockMs }) ∧
      (y.seconds = 0 →
        t.plans.pendingPlan = (if selected t = t.plans.inForce then none else selected t)) ∧
      t.plans.inForce = s.plans.inForce ∧ t.seq = s.seq ∧ t.jds = s.jds ∧ t.flt = s.flt

/-! ### Junction control (R27, R47, R167 to R176) -/

/-- RESTART (R169): refused in its order of conditions, changing nothing; otherwise restart-permitted is set and the
change from DARK to START-UP made (R168, R176; `Obligations.StartUpBegins` says what it does). -/
def Obligations.RestartTable : Prop :=
  ∀ (tag : Byte) (s : State), takes s 0x18 tag [] = true →
    ∃ t, exec (.restart tag []) s = .next t ∧
      if s.flt.mode ≠ .dark ∧ s.flt.mode ≠ .unconfigured then Replied s 0x98 tag (.no .wrongMode) s t
      else if s.jds.desc ≠ .accepted then Replied s 0x98 tag (.no .noDescription) s t
      else if ∀ p, (planAt s p).state ≠ .valid then Replied s 0x98 tag (.no .noPlan) s t
      else if s.flt.overflow = true ∨ ∃ e ∈ s.flt.list, e.state = .active ∧
          (responseOf s e.kind e.subject = .dark ∨
            (e.kind = .relayFailClosed ∧ ∃ c, e.subject = .circuit c ∧ aspectOf c = .amber)) then
        Replied s 0x98 tag (.no .faultActive) s t
      else Answered s 0x98 tag .ok t ∧ t.flt.restartPermitted = true ∧
        Replied s 0x98 tag .ok
          (settle (startUp (.request 0x18) { takeRequest s with flt := { s.flt with restartPermitted := true } })) t

/-- R52, R93, R143, R168, R176: the change from DARK to START-UP: SEQ in START-ALL-RED with no stage, no timetable, an
empty pending switch-on set and every used group commanded RED, every last end of green none; OSW from OUTPUTS-OFF to
REDS-FIRST, where the fitted red of every used group is entering or commanded on and no other circuit of it is, and on
to LIVE if every fitted red is CLOSED by that (R94), while in CONTACTOR-RELEASE the commands are stored alone (R97); a
cable test on a red to be energised is abandoned (R159); the lamp sections of the fitted circuits started afresh with both retest
counts at 0; the mode goes on to ALL-RED where an ACTIVE entry has that response; RED-PROOF-TIMEOUT entries of groups
without a red are CLEARED (R181). Where it neither clears an entry nor goes on to ALL-RED, the MODE report is the one it
posts. -/
def Obligations.StartUpBegins : Prop :=
  ∀ (cause : ModeCause) (s : State), s.flt.mode = .dark →
    let u := startUp cause s
    u.seq.state = .startAllRed ∧ u.seq.current = none ∧ u.seq.position = none ∧ u.seq.target = .none ∧
    u.seq.pendingAdvance = none ∧ (∀ g, u.seq.leg.get g = none) ∧ u.seq.timetable = [] ∧
    u.seq.switchOn = Tab.const 48 false ∧
    (∀ g, s.jds.used g = true → s.osw.phase = .outputsOff ∨ s.osw.phase = .contactorRelease →
      u.osw.stored.get g = .red) ∧
    (s.osw.phase = .outputsOff →
      let reds := fun c => aspectOf c = .red ∧ s.jds.fitted c = true
      (∀ c, s.jds.used (groupOf c) = true →
        (reds c → (relayAt u c).coil.commanded = true ∨ (relayAt u c).entering = true) ∧
        (¬reds c → (relayAt u c).coil.commanded = false ∧ (relayAt u c).entering = false)) ∧
      ((∀ c, reds c → relayState u c = .closed) → u.osw.phase = .live ∧ u.osw.contactor.commanded = true) ∧
      ((∃ c, reds c ∧ relayState u c ≠ .closed) → u.osw.phase = .redsFirst ∧ u.osw.contactor = s.osw.contactor) ∧
      ∀ w, s.cbl.test = some w → reds w.circuit → s.jds.used (groupOf w.circuit) = true →
        (relayAt s w.circuit).coil.commanded = false → Abandoned s w u) ∧
    (s.osw.phase = .contactorRelease → u.osw = { s.osw with stored := u.osw.stored }) ∧
    (∀ g, s.jds.used g = true → u.seq.commanded.get g = .red) ∧
    (∀ c, s.jds.fitted c = true → u.lmp.lamp.get c =
      { state := if (s.lmp.lamp.get c).state = .learning then .learning else .unproven
        p := (s.lmp.lamp.get c).p, k := (s.jds.circuit.get c).lamps, learn := (s.lmp.lamp.get c).learn
        cause := (s.lmp.lamp.get c).cause, retest := some 0, offRetest := some 0 }) ∧
    (∀ e ∈ u.flt.list, ∀ g, e.kind = .redProofTimeout → e.subject = .group g → s.jds.fitted (redOf g) = false →
      e.state = .cleared) ∧
    u.flt.mode =
      (if ∃ e ∈ u.flt.list, e.state = .active ∧ responseOf s e.kind e.subject = .allRed then .allRed else .startUp) ∧
    (u.flt.list = s.flt.list → u.flt.mode = .startUp →
      (∀ k, cause = .request k → Posted [modePosting .dark .startUp .none 1 k] s u) ∧
      (cause = .autoRestart → Posted [modePosting .dark .startUp .none 4 0] s u))

/-- HOLD, RELEASE_HOLD, GO_ALL_RED (R171), every row of the table, with the MODE report of a change (R168; it follows
what SEQ posts: log 12). At RELEASE-HOLD SEQ examines the end conditions of the current stage (R46): one that has
passed makes the entry into COMMIT, and otherwise SEQ stays as it is. At GO-ALL-RED (R48 to R50) the pending advance is
discarded; a stage past its floor wait enters COMMIT toward the empty target; a COMMIT toward a stage takes the empty
target with its switch-on set, its lead running on; anything else runs on. -/
def Obligations.HoldReleaseAllRedTable : Prop :=
  ∀ (tag : Byte) (s : State), s.flt.inbox = [] →
    (takes s 0x1C tag [] = true → ∃ t, exec (.hold tag []) s = .next t ∧
      (s.flt.mode = .run → t.flt.mode = .hold ∧ Answered s 0x9C tag .ok t ∧ t.seq = s.seq ∧ t.jds = s.jds ∧
        t.osw = s.osw ∧ t.plans = s.plans ∧ Posted [modePosting .run .hold .none 1 0x1C] s t) ∧
      (s.flt.mode = .hold → Replied s 0x9C tag .ok s t) ∧
      (s.flt.mode ≠ .run → s.flt.mode ≠ .hold → Replied s 0x9C tag (.no .wrongMode) s t)) ∧
    (takes s 0x1D tag [] = true → ∃ t, exec (.releaseHold tag []) s = .next t ∧
      (s.flt.mode = .hold → t.flt.mode = .run ∧ Answered s 0x9D tag .ok t ∧ t.jds = s.jds ∧ t.osw = s.osw ∧
        let passed := fun (timer : Option Nat) (n : Nat) => ∃ ms, timer = some ms ∧ n ≤ ms / 100
        let ends := s.seq.state = .stage ∧ ∃ x, runningEntry s = some x ∧
          if inDemandPlan s = true then
            (s.seq.substate = some .running ∨ s.seq.substate = some .resting) ∧ demandElsewhere s = true ∧
              (passed s.seq.gap x.gap ∨ passed s.seq.maximum x.maxGreen)
          else passed s.seq.elapsed (max x.fixed x.minGreen)
        let report := modePosting .hold .run .none 1 0x1D
        (ends → CommitEntered s s.seq.pendingAdvance t ∧ Posted (planPostings 0 s ++ [report]) s t) ∧
        (¬ends → t.seq = s.seq ∧ t.plans = s.plans ∧ Posted [report] s t)) ∧
      (s.flt.mode = .run → Replied s 0x9D tag .ok s t) ∧
      (s.flt.mode ≠ .run → s.flt.mode ≠ .hold → Replied s 0x9D tag (.no .wrongMode) s t)) ∧
    (takes s 0x1A tag [] = true → ∃ t, exec (.goAllRed tag []) s = .next t ∧
      (s.flt.mode = .startUp ∨ s.flt.mode = .run ∨ s.flt.mode = .hold →
        t.flt.mode = .allRed ∧ Answered s 0x9A tag .ok t ∧ t.seq.pendingAdvance = none ∧ t.jds = s.jds ∧
        t.osw = s.osw ∧
        let calm := { s.seq with pendingAdvance := none }
        let past := s.seq.state = .stage ∧ ∃ k ms, s.seq.current = some k ∧ s.seq.elapsed = some ms ∧
          ∀ g, (s.jds.stageSet k).get g = true → (s.jds.group.get g).floor ≤ ms / 100
        let report := modePosting s.flt.mode .allRed .none 1 0x1A
        (past → CommitEntered { s with flt := { s.flt with mode := .allRed } } none t ∧
          Posted (planPostings 0 s ++ [report]) s t) ∧
        (∀ k e, s.seq.state = .commit → s.seq.target = .stage k e →
          t.seq = { calm with target := .empty, switchOn := t.seq.switchOn } ∧
          ∀ c, t.seq.switchOn.get c = true ↔ SwitchesOn s.jds (currentSet s) (Tab.const 16 false) c) ∧
        (¬past → (∀ k e, ¬(s.seq.state = .commit ∧ s.seq.target = .stage k e)) → t.seq = calm) ∧
        (¬past → t.plans = s.plans ∧ Posted [report] s t)) ∧
      (s.flt.mode = .allRed → Replied s 0x9A tag .ok s t) ∧
      (s.flt.mode = .dark ∨ s.flt.mode = .unconfigured → Replied s 0x9A tag (.no .wrongMode) s t))

/-- GO_DARK (R172, R23, R95, R180): refused in UNCONFIGURED; in DARK it clears restart-permitted and renews the dark
cause alone; from the other modes it makes the entry into DARK with dark cause HOST: the mode is DARK, SEQ IDLE with
every group OFF, the contactor off. Every entry into DARK (R168, R180) sets the dark cause and turns the ACTIVE
lamp-based entries PENDING-RETEST, and posts the MODE report with its cause; the other entries stay as they are. -/
def Obligations.GoDarkTable : Prop :=
  (∀ (tag : Byte) (s : State), takes s 0x1B tag [] = true →
     ∃ t, exec (.goDark tag []) s = .next t ∧
       (s.flt.mode = .unconfigured → Replied s 0x9B tag (.no .wrongMode) s t) ∧
       (s.flt.mode = .dark → Replied s 0x9B tag .ok
         { s with flt := { s.flt with restartPermitted := false, darkCause := .host } } t) ∧
       (s.flt.mode ≠ .unconfigured → s.flt.mode ≠ .dark →
         Replied s 0x9B tag .ok
           (settle (enterDark .host (.request 0x1B)
             { takeRequest s with flt := { s.flt with restartPermitted := false, darkCause := .host } })) t ∧
         Answered s 0x9B tag .ok t ∧ t.flt.mode = .dark ∧ t.flt.restartPermitted = false ∧
         t.seq.state = .idle ∧ t.seq.current = none ∧ t.seq.timetable = [] ∧ (∀ g, t.seq.commanded.get g = .off) ∧
         (s.osw.phase = .redsFirst ∨ s.osw.phase = .live →
           t.osw.contactor.commanded = false ∧ (∀ g, t.osw.stored.get g = .off) ∧
           (t.osw.phase = .contactorRelease ∨ t.osw.phase = .outputsOff)))) ∧
  ∀ (d : DarkCause) (cause : ModeCause) (s : State),
    (enterDark d cause s).flt.mode = .dark ∧ (enterDark d cause s).flt.darkCause = d ∧
    (enterDark d cause s).flt.list = s.flt.list.map (fun e =>
      if e.state = .active ∧ e.kind ∈ [FaultKind.redOut, .redProofTimeout, .lampDegraded, .lampOut,
        .lampOvercurrent, .onWhenOff] then { e with state := .pendingRetest } else e) ∧
    (enterDark d cause s).jds = s.jds ∧ (enterDark d cause s).det = s.det ∧
    let posted := fun subject cls value =>
      Posted [modePosting s.flt.mode .dark subject cls value] s (enterDark d cause s)
    match cause with
    | .request k => posted .none 1 k
    | .fault k j => posted (reportSubject j) 2 (b8 k.code)
    | .acceptance => posted .none 3 0
    | .autoRestart => posted .none 4 0
    | .firstInterstage => posted .none 5 0

/-- RESUME (R173, R51, R68, R36), every row of the table; taken, it enters COMMIT with the lead running, the pending
plan taken, no current stage, the pending switch-on set made, and the target searched from the first entry of the plan
then in force: in a FIXED-TIME plan the first entry, in a DEMAND plan the first whose stage has its flag set, or the
first when none has; PLAN-CHANGE (R68) and then MODE (R168) are posted, in the order of log 12 (the model's reading). -/
def Obligations.ResumeTable : Prop :=
  ∀ (tag : Byte) (s : State), takes s 0x19 tag [] = true → s.flt.inbox = [] →
    ∃ t, exec (.resume tag []) s = .next t ∧
      if s.flt.mode ≠ .allRed then Replied s 0x99 tag (.no .wrongMode) s t
      else if s.flt.overflow = true ∨ ∃ e ∈ s.flt.list, e.state = .active ∧
          (responseOf s e.kind e.subject = .allRed ∨ responseOf s e.kind e.subject = .dark) then
        Replied s 0x99 tag (.no .faultActive) s t
      else if s.seq.state ≠ .allRedHeld then Replied s 0x99 tag .busy s t
      else Answered s 0x99 tag .ok t ∧ t.flt.mode = .run ∧ t.seq.state = .commit ∧
        t.seq.lead = some ⟨0, 100 * s.jds.timing.commitLead⟩ ∧ t.seq.pendingAdvance = none ∧
        t.plans.inForce = s.plans.pendingPlan.or s.plans.inForce ∧ t.plans.pendingPlan = none ∧
        t.jds = s.jds ∧ t.osw = s.osw ∧ t.seq.commanded = s.seq.commanded ∧
        t.seq.current = none ∧ t.seq.position = none ∧
        Posted (planPostings 2 s ++ [modePosting .allRed .run .none 1 0x19]) s t ∧
        (∀ c, t.seq.switchOn.get c = true ↔
          SwitchesOn s.jds (Tab.const 16 false) (t.seq.target.groups s.jds) c) ∧
        ∀ i, t.plans.inForce = some i → 0 < (planAt s i).length →
          let stage := fun e : Entry => ((planAt s i).entries.get e).stage
          ((planAt s i).mode = .fixedTime → t.seq.target = .stage (stage 0) 0) ∧
          ((planAt s i).mode = .demand →
            ((∀ e : Entry, e.val < (planAt s i).length → t.seq.demand.get (stage e) = false) →
              t.seq.target = .stage (stage 0) 0) ∧
            ∀ e : Entry, e.val < (planAt s i).length → t.seq.demand.get (stage e) = true →
              (∀ d, d < e → t.seq.demand.get (stage d) = false) → t.seq.target = .stage (stage e) e)

/-- ADVANCE (R47, R35, R34 case 2, R36): the refusals; toward the current stage nothing; past the minimum COMMIT toward
X, searched from the entry after the position, with its pending switch-on set; in MINIMUM, COMMIT and INTERSTAGE X is
the pending advance. DEMAND_INSERT (R27, R25): BAD-FIELD for a number outside 1-12 and for a stage that is not defined;
otherwise DONE, and the stage's flag is set unless the stage is the current one in STAGE or COMMIT, when it stays as it
was. -/
def Obligations.AdvanceAndDemandInsertTable : Prop :=
  (∀ (tag b : Byte) (s : State), takes s 0x1E tag [b] = true → s.flt.mode ≠ .run → s.flt.mode ≠ .hold →
    ∃ t, exec (.advance tag [b]) s = .next t ∧ Replied s 0x9E tag (.no .wrongMode) s t) ∧
  (∀ (tag b : Byte) (s : State), takes s 0x1E tag [b] = true → s.flt.mode = .run ∨ s.flt.mode = .hold →
    (∀ x, b = number x → s.jds.defined x = false ∨ ∀ p, planInForce s = some p → p.names x = false) →
    ∃ t, exec (.advance tag [b]) s = .next t ∧ Replied s 0x9E tag (.badField 1) s t) ∧
  (∀ (tag : Byte) (x : Stage) (p : PlanSlot) (s : State), takes s 0x1E tag [number x] = true → s.flt.inbox = [] →
    s.flt.mode = .run ∨ s.flt.mode = .hold → s.jds.defined x = true → planInForce s = some p →
    p.names x = true →
    ∃ t, exec (.advance tag [number x]) s = .next t ∧ Answered s 0x9E tag .ok t ∧ t.flt.mode = s.flt.mode ∧
      t.jds = s.jds ∧ t.osw = s.osw ∧
      (s.seq.state = .stage → s.seq.current = some x → t.seq = s.seq) ∧
      (s.seq.state = .stage → s.seq.current ≠ some x → s.seq.substate = some .minimum →
        t.seq = { s.seq with pendingAdvance := some x }) ∧
      (s.seq.state = .commit ∨ s.seq.state = .interstage → t.seq = { s.seq with pendingAdvance := some x }) ∧
      (s.seq.state = .stage → s.seq.current ≠ some x → s.seq.substate ≠ some .minimum →
        CommitEntered s (some x) t ∧ t.seq.substate = s.seq.substate ∧ Posted (planPostings 0 s) s t)) ∧
  (∀ (tag b : Byte) (s : State), takes s 0x1F tag [b] = true → (∀ k, b = number k → s.jds.defined k = false) →
    ∃ t, exec (.demandInsert tag [b]) s = .next t ∧ Replied s 0x9F tag (.badField 1) s t) ∧
  ∀ (tag : Byte) (k : Stage) (s : State), takes s 0x1F tag [number k] = true → s.jds.defined k = true →
    s.flt.inbox = [] →
    ∃ t, exec (.demandInsert tag [number k]) s = .next t ∧ Answered s 0x9F tag .ok t ∧
      ((s.seq.state = .stage ∨ s.seq.state = .commit) ∧ s.seq.current = some k →
        t.seq.demand.get k = s.seq.demand.get k) ∧
      (¬((s.seq.state = .stage ∨ s.seq.state = .commit) ∧ s.seq.current = some k) → t.seq.demand.get k = true) ∧
      (∀ j, s.seq.demand.get j = true → t.seq.demand.get j = true) ∧
      t.jds = s.jds ∧ t.osw = s.osw ∧ t.flt = s.flt

/-! ### Stages (R28 to R53) -/

/-- MINIMUM_GREEN_EXPIRY (R29, R48, R34 to R37): the substate leaves MINIMUM for RUNNING, or for RESTING in a DEMAND
plan without demand elsewhere; a pending advance is acted on in RUN and HOLD, with the entry into COMMIT, its target
and its pending switch-on set; with none, an end condition that has passed already ends the stage in RUN: R32's in a
DEMAND plan, R33's in a FIXED-TIME plan. Otherwise nothing but the substate changes in SEQ. -/
def Obligations.MinimumGreenExpires : Prop :=
  ∀ (x : PlanEntry) (ms : Nat) (s : State), s.seq.state = .stage → s.seq.substate = some .minimum →
    runningEntry s = some x → s.seq.elapsed = some ms → x.minGreen ≤ ms / 100 → s.flt.inbox = [] →
    ∃ t, exec .minimumGreenExpiry s = .next t ∧ t.flt.mode = s.flt.mode ∧ t.jds = s.jds ∧ t.osw = s.osw ∧
      t.seq.current = s.seq.current ∧ t.seq.commanded = s.seq.commanded ∧
      t.seq.substate =
        some (if inDemandPlan s = true ∧ demandElsewhere s = false then .resting else .running) ∧
      (s.seq.pendingAdvance ≠ none → s.flt.mode = .run ∨ s.flt.mode = .hold →
        CommitEntered s s.seq.pendingAdvance t ∧ Posted (planPostings 0 s) s t) ∧
      let ends := s.flt.mode = .run ∧ if inDemandPlan s = true then demandElsewhere s = true ∧
          ((∃ n, s.seq.gap = some n ∧ x.gap ≤ n / 100) ∨ ∃ n, s.seq.maximum = some n ∧ x.maxGreen ≤ n / 100)
        else max x.fixed x.minGreen ≤ ms / 100
      (s.seq.pendingAdvance = none → ends → CommitEntered s none t ∧ Posted (planPostings 0 s) s t) ∧
      (s.seq.pendingAdvance = none ∧ ¬ends ∨
          s.seq.pendingAdvance ≠ none ∧ s.flt.mode ≠ .run ∧ s.flt.mode ≠ .hold →
        t.seq = { s.seq with substate := t.seq.substate } ∧ t.plans = s.plans ∧ Posted [] s t)

/-- GAP_EXPIRY, MAXIMUM_GREEN_REACHED (R30 to R32, R35), FIXED_DURATION_REACHED (R33), FLOOR_WAIT_REACHED (R49): in a
DEMAND plan past the minimum with demand elsewhere, the expired gap or the reached maximum ends the stage; in a
FIXED-TIME plan the later of fixed duration and minimum green; in ALL-RED the floor wait, toward the empty target. The
end is an entry into COMMIT (`CommitEntered`): the stage stays current with its greens, the lead runs, a pending plan
is taken with its PLAN-CHANGE report (R68), the target is searched (R34, R67), the pending switch-on set is that of the
losing and gaining groups (R36), and a cable test in flight on a circuit of that set is abandoned (R159). -/
def Obligations.StageEndEntersCommit : Prop :=
  ∀ s : State, s.seq.state = .stage → s.flt.inbox = [] →
    let commits := fun (i : Instr) => ∃ t, exec i s = .next t ∧ CommitEntered s s.seq.pendingAdvance t ∧
      t.flt.mode = s.flt.mode ∧ t.jds = s.jds ∧ t.osw = s.osw ∧ Posted (planPostings 0 s) s t ∧
      ∀ w, s.cbl.test = some w → t.seq.switchOn.get w.circuit = true → Abandoned s w t
    (∀ x ms, s.flt.mode = .run → inDemandPlan s = true →
      s.seq.substate = some .running ∨ s.seq.substate = some .resting → demandElsewhere s = true →
      runningEntry s = some x → s.seq.gap = some ms → x.gap ≤ ms / 100 → commits .gapExpiry) ∧
    (∀ x ms, s.flt.mode = .run → inDemandPlan s = true →
      s.seq.substate = some .running ∨ s.seq.substate = some .resting → demandElsewhere s = true →
      runningEntry s = some x → s.seq.maximum = some ms → x.maxGreen ≤ ms / 100 → commits .maximumGreenReached) ∧
    (∀ x ms, s.flt.mode = .run → inDemandPlan s = false → runningEntry s = some x →
      s.seq.elapsed = some ms → max x.fixed x.minGreen ≤ ms / 100 → commits .fixedDurationReached) ∧
    (∀ k ms, s.flt.mode = .allRed → s.seq.current = some k → s.seq.elapsed = some ms →
      (∀ g, (s.jds.stageSet k).get g = true → (s.jds.group.get g).floor ≤ ms / 100) → commits .floorWaitReached)

/-- COMMIT_LEAD_EXPIRY (R38, R53): with losing or gaining groups the timetable is computed, INTERSTAGE begins now with
no stage current, and in START-UP the junction is RUN (with its MODE report); with none the target stage begins at
once, or ALL-RED-HELD for the empty target, with the STAGE-CHANGE report (R54; the previous stage after a darkness is
log 16's). R26: a stage that is no longer current re-posts its held demands and those of ACTIVE PRESENCE detectors;
R31: the maximum timer of the stage that begins runs from 0 if there is demand elsewhere, and otherwise does not run.
-/
def Obligations.CommitLeadExpires : Prop :=
  ∀ (x : Timer) (s : State), s.seq.state = .commit → s.seq.lead = some x → x.limit ≤ x.ms → s.flt.inbox = [] →
    ∃ t, exec .commitLeadExpiry s = .next t ∧ t.jds = s.jds ∧ t.osw = s.osw ∧ t.seq.commanded = s.seq.commanded ∧
      (timetableFor s s.seq.target ≠ [] →
        t.seq.state = .interstage ∧ t.seq.start = some ⟨s.uptime, 0⟩ ∧
        t.seq.timetable = timetableFor s s.seq.target ∧ t.seq.target = s.seq.target ∧
        t.seq.current = none ∧
        (s.seq.current ≠ none → t.seq.position = none ∧ t.seq.substate = none ∧ t.seq.elapsed = none ∧
          t.seq.gap = none ∧ t.seq.maximum = none) ∧
        t.flt.mode = (if s.flt.mode = .startUp then .run else s.flt.mode) ∧
        Posted (if s.flt.mode = .startUp then [modePosting .startUp .run .none 5 0] else []) s t) ∧
      (∀ k e, timetableFor s s.seq.target = [] → s.seq.target = .stage k e → s.flt.mode ≠ .allRed →
        t.seq.state = .stage ∧ t.seq.current = some k ∧ t.seq.position = some e ∧
        t.seq.substate = some .minimum ∧ t.seq.elapsed = some 0 ∧ t.seq.gap = some 0 ∧
        t.seq.demand.get k = false ∧ t.flt.mode = s.flt.mode ∧
        (t.seq.maximum = some 0 ∨ t.seq.maximum = none) ∧
        (t.seq.maximum = some 0 ↔ ∃ i d, s.plans.inForce = some i ∧ d.val < (planAt s i).length ∧
          ((planAt s i).entries.get d).stage ≠ k ∧ t.seq.demand.get ((planAt s i).entries.get d).stage = true) ∧
        Posted [stagePosting (some k) (s.seq.current.or s.seq.lastStage) s.plans.inForce 0] s t) ∧
      (timetableFor s s.seq.target = [] → s.seq.target = .empty →
        t.seq.state = .allRedHeld ∧ t.seq.current = none ∧ t.seq.target = .none ∧ t.flt.mode = s.flt.mode ∧
        Posted [stagePosting none s.seq.current s.plans.inForce 0] s t) ∧
      ∀ k, s.seq.current = some k → (∀ e, s.seq.target ≠ .stage k e) →
        (timetableFor s s.seq.target = [] → s.flt.mode ≠ .allRed ∨ s.seq.target = .empty) →
        let held := (∃ i e, s.plans.inForce = some i ∧ e.val < (planAt s i).length ∧
            ((planAt s i).entries.get e).stage = k ∧ ((planAt s i).entries.get e).always = true) ∨
          ∃ d, s.jds.served d = true ∧ (s.jds.detector.get d).demand.get k = true ∧
            ((recOf s d).fault ≠ .none ∨ (s.jds.detKind d = .presence ∧ (recOf s d).active = true))
        (held → t.seq.demand.get k = true) ∧ (¬held → t.seq.demand.get k = s.seq.demand.get k)

/-- R39 to R41: the timetable, every entry of it. A losing group leaves GREEN at offset 0, a vehicle over AMBER for its
amber time. A gaining group's green comes at the largest of R40's terms: its red-amber time, the intergreen from every
losing group it conflicts with, and what remains of the intergreen from every conflicting group outside the current
stage that lost its green earlier; a vehicle's RED-AMBER comes its red-amber time before. No other group has an entry,
each entry stands once, PENDING, and the entries go by offset and then by group. -/
def Obligations.TimetableKeepsIntergreens : Prop :=
  ∀ (target : Target) (s : State),
    let table := timetableFor s target
    let vehicle := fun g => s.jds.kindOf g = .vehicle
    let lead := fun n => if vehicle n then (s.jds.group.get n).redAmber else 0
    let term := fun (n : Group) (x : Nat) => x = lead n ∨
      (∃ l, losing s target l = true ∧ s.jds.conflicts n l = true ∧ x = s.jds.ig l n) ∨
      ∃ c u, (currentSet s).get c = false ∧ s.jds.conflicts n c = true ∧ s.seq.leg.get c = some u ∧
        x = s.jds.ig c n - u.elapsed / 100
    (∀ l e, losing s target l = true → vehicle l → (e ∈ table ∧ e.group = l ↔
      e = ⟨0, l, .amber, .pending, 0⟩ ∨ e = ⟨(s.jds.group.get l).amber, l, .red, .pending, 0⟩)) ∧
    (∀ l e, losing s target l = true → ¬vehicle l → (e ∈ table ∧ e.group = l ↔ e = ⟨0, l, .red, .pending, 0⟩)) ∧
    (∀ n, gaining s target n = true → ∃ off, term n off ∧ (∀ x, term n x → x ≤ off) ∧
      ∀ e, e ∈ table ∧ e.group = n ↔ e = ⟨off, n, .green, .pending, 0⟩ ∨
        (0 < lead n ∧ e = ⟨off - lead n, n, .redAmber, .pending, 0⟩)) ∧
    (∀ e ∈ table, losing s target e.group = true ∨ gaining s target e.group = true) ∧ table.Nodup ∧
    table.Pairwise (fun a b => a.offset < b.offset ∨ (a.offset = b.offset ∧ a.group.val ≤ b.group.val))

/-- TIMETABLE_ENTRY_DUE (R42, R43, R39) and RED_PROOF_TIMEOUT (R44). That one command issues one entry, the first that
is due, and leaves the others of its offset to further commands is the model's choice (log 31). The first PENDING entry
whose offset has come is issued, its group commanded and the command with OSW, and an end of green is its group's last,
at the interstage start; a GREEN one without red proof of every conflicting group is HELD instead, and its group stays;
a HELD entry at its limit, the first of several in the timetable (log 64, the model's choice), raises RED-PROOF-TIMEOUT
for the lowest conflicting group without proof. What the command does to the relays is `groupCommand`'s
(`Obligations.RelayCommandsMoveRelays`). -/
def Obligations.TimetableEntries : Prop :=
  let come := fun (s : State) (n : Nat) => ∃ x, s.seq.start = some x ∧ n ≤ x.elapsed / 100
  let first := fun (l : List TtEntry) (ok : TtEntry → Prop) (e : TtEntry) =>
    ∃ a b, l = a ++ e :: b ∧ ok e ∧ ∀ y ∈ a, ¬ok y
  (∀ (e : TtEntry) (s : State),
    (dueEntry s = some e ↔ first s.seq.timetable (fun y => y.status = .pending ∧ come s y.offset) e) ∧
    (timedOut s = some e ↔
      first s.seq.timetable (fun y => y.status = .held ∧ come s (y.offset + y.proofLimit)) e)) ∧
  (∀ (e : TtEntry) (s : State), s.seq.state = .interstage → dueEntry s = some e →
    (e.state = .green → ∀ g, s.jds.conflicts e.group g = true → (s.lmp.lamp.get (redOf g)).proof = true) →
    ∃ u, exec .timetableEntryDue s = .next (conclude u) ∧
      u.seq.commanded.get e.group = e.state ∧ u.osw.stored.get e.group = e.state ∧
      (∀ g, g ≠ e.group → u.seq.commanded.get g = s.seq.commanded.get g ∧
        u.osw.stored.get g = s.osw.stored.get g) ∧
      (∃ a b, s.seq.timetable = a ++ e :: b ∧
        u.seq.timetable = a ++ { e with status := .issued } :: b) ∧
      (∀ g, u.seq.leg.get g = if g = e.group ∧ e.offset = 0 ∧ (e.state = .amber ∨ e.state = .red) then s.seq.start
        else s.seq.leg.get g) ∧
      u.seq.state = .interstage ∧ u.jds = s.jds ∧
      u = groupCommand e.group e.state { s with seq := u.seq }) ∧
  (∀ (e : TtEntry) (g : Group) (s : State), s.seq.state = .interstage → dueEntry s = some e → e.state = .green →
    s.jds.conflicts e.group g = true → (s.lmp.lamp.get (redOf g)).proof = false → s.flt.inbox = [] →
    ∃ t, exec .timetableEntryDue s = .next t ∧ t.seq.commanded = s.seq.commanded ∧ t.osw = s.osw ∧
      (∃ a b, s.seq.timetable = a ++ e :: b ∧
        t.seq.timetable = a ++ { e with status := .held, proofLimit := s.jds.timing.redProofLimit } :: b) ∧
      t.flt = s.flt ∧ t.jds = s.jds) ∧
  (∀ (e : TtEntry) (g : Group) (s : State), s.seq.state = .interstage → timedOut s = some e →
    s.jds.conflicts e.group g = true → (s.lmp.lamp.get (redOf g)).proof = false →
    (∀ h, h < g → s.jds.conflicts e.group h = true → (s.lmp.lamp.get (redOf h)).proof = true) →
    exec .redProofTimeout s = .next (conclude
      { s with flt := { s.flt with inbox := s.flt.inbox ++ [.raise .redProofTimeout (.group g) 0xFF] } }))

/-- INTERSTAGE_END (R45, R28): with every entry ISSUED and D passed the target stage begins, its timers from 0 and its
demand flag cleared, in ALL-RED too (R50), where it stays until its floor wait (`Obligations.StageEndEntersCommit`);
with the empty target SEQ enters ALL-RED-HELD; each posts STAGE-CHANGE (R54; its time and previous stage: logs 17 and
16). START_UP_ALL_RED_EXPIRY (R53, R68): the pending plan is taken; then, with no stage current, COMMIT toward the
first entry of the plan in force (R34, case 3) with its pending switch-on set (R36), or ALL-RED-HELD with no target
where the mode is ALL-RED, with their reports (R68, R54). -/
def Obligations.InterstageAndStartUpEnd : Prop :=
  (∀ (k : Stage) (e : Entry) (x : Stamp) (s : State), s.seq.state = .interstage → s.seq.target = .stage k e →
    s.seq.start = some x → (∀ a ∈ s.seq.timetable, a.status = .issued ∧ a.offset ≤ x.elapsed / 100) →
    (s.flt.mode = .allRed → ∃ g, (s.jds.stageSet k).get g = true ∧ 0 < (s.jds.group.get g).floor) →
    s.flt.inbox = [] →
    ∃ t, exec .interstageEnd s = .next t ∧ t.seq.state = .stage ∧ t.seq.current = some k ∧
      t.seq.position = some e ∧ t.seq.target = .none ∧ t.seq.substate = some .minimum ∧
      t.seq.elapsed = some 0 ∧ t.seq.gap = some 0 ∧ t.seq.timetable = [] ∧ t.seq.switchOn = Tab.const 48 false ∧
      t.seq.start = none ∧ t.seq.demand = s.seq.demand.set k false ∧
      t.seq.pendingAdvance = (if s.seq.pendingAdvance = some k then none else s.seq.pendingAdvance) ∧
      Posted [stagePosting (some k) (s.seq.current.or s.seq.lastStage) s.plans.inForce (min (x.elapsed / 100) 65534)] s t ∧
      t.seq.commanded = s.seq.commanded ∧ t.jds = s.jds ∧ t.osw = s.osw ∧ t.flt = s.flt) ∧
  (∀ (x : Stamp) (s : State), s.seq.state = .interstage → s.seq.target = .empty → s.seq.start = some x →
    (∀ a ∈ s.seq.timetable, a.status = .issued ∧ a.offset ≤ x.elapsed / 100) → s.flt.inbox = [] →
    ∃ t, exec .interstageEnd s = .next t ∧ t.seq.state = .allRedHeld ∧ t.seq.current = none ∧
      t.seq.position = none ∧ t.seq.timetable = [] ∧ t.seq.switchOn = Tab.const 48 false ∧ t.seq.start = none ∧
      Posted [stagePosting none s.seq.ended s.plans.inForce (min (x.elapsed / 100) 65534)] s t ∧
      t.seq.commanded = s.seq.commanded ∧ t.jds = s.jds ∧ t.osw = s.osw ∧ t.flt = s.flt) ∧
  (∀ (x : Timer) (s : State), s.seq.state = .startAllRed → s.seq.allRed = some x → x.limit ≤ x.ms →
    s.flt.inbox = [] →
    ∃ t, exec .startUpAllRedExpiry s = .next t ∧ t.plans.inForce = s.plans.pendingPlan.or s.plans.inForce ∧
      t.plans.pendingPlan = none ∧ t.seq.state = (if s.flt.mode = .allRed then .allRedHeld else .commit) ∧
      (s.flt.mode ≠ .allRed → t.seq.lead = some ⟨0, 100 * s.jds.timing.commitLead⟩) ∧
      t.seq.current = none ∧ t.seq.position = none ∧ t.seq.pendingAdvance = none ∧ t.seq.allRed = none ∧
      (s.flt.mode = .allRed → t.seq.target = .none) ∧
      Posted (planPostings 1 s ++
        (if s.flt.mode = .allRed then [stagePosting none none t.plans.inForce 0] else [])) s t ∧
      (s.flt.mode ≠ .allRed → ∀ i, t.plans.inForce = some i → 0 < (planAt s i).length →
        t.seq.target = .stage ((planAt s i).entries.get 0).stage 0) ∧
      (s.flt.mode ≠ .allRed → ∀ c, t.seq.switchOn.get c = true ↔
        SwitchesOn s.jds (Tab.const 16 false) (t.seq.target.groups s.jds) c) ∧
      t.seq.commanded = s.seq.commanded ∧ t.jds = s.jds ∧ t.osw = s.osw ∧ t.flt = s.flt)

/-! ### Detectors (R73 to R85) -/

/-- DETECTOR_INPUT_CHANGE (R75): of a served detector, the level against the debounced state starts the debounce timer
from 0 with the debounce time, the level of the debounced state stops it; with a debounce time of 0 the change is
accepted at once (log 28); a detector not served only has its contact's level noted. DETECTOR_ACTIVATION and
DETECTOR_RELEASE (R76, R77, R79, R81 to R84, R30): the debounce timer at the debounce time accepts the change: what the
record takes, the captured stage and time among it; the demand postings of an activation, and its extension posting,
which restarts the gap; the silent condition that ends, the chatter condition that arises at the ninth activation, the
stuck-on condition that a release ends, each handed to FLT and reported (in the order of logs 46 and 54); and that no
other detector's record changes. -/
def Obligations.DetectorInputsAndAcceptedChanges : Prop :=
  (∀ (d : Detector) (closed : Bool) (s : State), (recOf s d).contact ≠ closed →
    (s.jds.served d = true → closed ≠ (recOf s d).active → (s.jds.detector.get d).debounce ≠ 0 →
      exec (.detectorInputChange d closed) s = .next { s with det := { s.det with
        record := s.det.record.set d { recOf s d with
          contact := closed, timer := some ⟨0, (s.jds.detector.get d).debounce⟩ } } }) ∧
    (s.jds.served d = true → closed = (recOf s d).active →
      exec (.detectorInputChange d closed) s = .next { s with det := { s.det with
        record := s.det.record.set d { recOf s d with contact := closed, timer := none } } }) ∧
    (s.jds.served d = false →
      exec (.detectorInputChange d closed) s = .next { s with det := { s.det with
        record := s.det.record.set d { recOf s d with contact := closed } } }) ∧
    (s.jds.served d = true → closed ≠ (recOf s d).active → (s.jds.detector.get d).debounce = 0 →
      ∃ t, exec (.detectorInputChange d closed) s = .next t ∧ (recOf t d).active = closed ∧
        (recOf t d).contact = closed)) ∧
  (∀ (d : Detector) (x : Timer) (s : State), s.jds.served d = true → (recOf s d).timer = some x → x.limit ≤ x.ms →
    (recOf s d).active = false →
    let y := recOf s d
    let shown := if s.seq.state = .stage ∨ s.seq.state = .commit then s.seq.current else none
    ∃ t, exec (.detectorActivation d) s = .next t ∧
      (recOf t d).active = true ∧ (recOf t d).timer = none ∧ (recOf t d).assertSeen = true ∧
      (recOf t d).releaseSeen = (recOf s d).releaseSeen ∧
      (recOf t d).activeSince = some ⟨s.uptime, 0⟩ ∧ (recOf t d).silent = false ∧
      (s.jds.detKind d = .presence → (recOf t d).silentSince = some ⟨s.uptime, 0⟩) ∧
      (recOf t d).activations = min ((recOf s d).activations + 1) 255 ∧
      (recOf t d).captured = (match shown with | some k => .stage k | none => .noStage) ∧
      (recOf t d).capturedTime = (match shown, s.seq.elapsed with
        | some _, some ms => some (min (ms / 100) 65534)
        | _, _ => none) ∧
      (recOf t d).chatter = (y.chatter || decide (y.activations = 8)) ∧ (recOf t d).stuckOn = y.stuckOn ∧
      (∀ k, (s.jds.detector.get d).demand.get k = true →
        ¬((s.seq.state = .stage ∨ s.seq.state = .commit) ∧ s.seq.current = some k) →
        t.seq.demand.get k = true) ∧
      (s.flt.inbox = [] → s.flt.mode ≠ .dark →
        let heard := if y.silent = true then (takeClear .detectorSilent (.detector d) s).flt else s.flt
        let rises := y.chatter = false ∧ y.activations = 8
        let quietNow := { y with active := true, silent := false }
        (∀ k, shown = some k → (s.jds.detector.get d).extend.get k = true → t.seq.gap = some 0) ∧
        t.flt = (if rises then (takeRaise .detectorChatter (.detector d) 0xFF { s with flt := heard }).flt else heard) ∧
        (s.lnk.kinds.get 8 = true → s.lnk.reports.length ≤ 27 →
          (y.silent = true → Reported s t .detectorState (.detector d) (detectorStateFields quietNow)) ∧
          (rises → Reported s t .detectorState (.detector d)
            (detectorStateFields { quietNow with chatter := true })))) ∧
      (∀ e, e ≠ d → recOf t e = recOf s e) ∧ t.jds = s.jds) ∧
  (∀ (d : Detector) (x : Timer) (s : State), s.jds.served d = true → (recOf s d).timer = some x → x.limit ≤ x.ms →
    (recOf s d).active = true →
    ∃ t, exec (.detectorRelease d) s = .next t ∧
      recOf t d = { recOf s d with
        active := false, timer := none, activeSince := none, releaseSeen := true, stuckOn := false } ∧
      (s.flt.inbox = [] → s.flt.mode ≠ .dark →
        t.flt = (if (recOf s d).stuckOn = true then (takeClear .detectorStuckOn (.detector d) s).flt else s.flt) ∧
        ((recOf s d).stuckOn = true → s.lnk.kinds.get 8 = true → s.lnk.reports.length ≤ 29 →
          Reported s t .detectorState (.detector d) (detectorStateFields (recOf t d)))) ∧
      (∀ e, e ≠ d → recOf t e = recOf s e) ∧ t.jds = s.jds)

/-- DETECTOR_STUCK_ON, DETECTOR_SILENT, CHATTER_INTERVAL_END (R81 to R85): the condition that arises, with no other
field of the record; the raise that FLT takes, the DETECTOR-STATE report, and the demands that the substituted detector
then holds: the flags of the stages it demands, the current one apart, and the gap of a current stage that it extends
(R30). At an interval's end the counts of every served detector, and the chatter condition that ends at the sixtieth
quiet interval, with its clear, and its report where it ends alone (several end in the order of log 53). -/
def Obligations.DetectorMonitors : Prop :=
  (∀ (d : Detector) (x : Stamp) (s : State), s.jds.served d = true → (recOf s d).active = true →
    (recOf s d).stuckOn = false → (recOf s d).activeSince = some x →
    (s.jds.detector.get d).stuckLimit * 60000 ≤ x.elapsed →
    ∃ t, exec (.detectorStuckOn d) s = .next t ∧ recOf t d = { recOf s d with stuckOn := true } ∧
      (recOf t d).fault = .stuckOn ∧ (∀ e, e ≠ d → recOf t e = recOf s e) ∧ t.jds = s.jds ∧
      (s.flt.inbox = [] → t.flt = (takeRaise .detectorStuckOn (.detector d) 0xFF s).flt ∧
        (∀ k, (s.jds.detector.get d).demand.get k = true → s.seq.current ≠ some k → t.seq.demand.get k = true) ∧
        (∀ k, s.seq.state = .stage ∨ s.seq.state = .commit → s.seq.current = some k →
          (s.jds.detector.get d).extend.get k = true → t.seq.gap = some 0) ∧
        (s.lnk.kinds.get 8 = true → s.lnk.reports.length ≤ 29 →
          Reported s t .detectorState (.detector d) (detectorStateFields (recOf t d))))) ∧
  (∀ (d : Detector) (x : Stamp) (s : State), s.jds.detKind d = .presence → (recOf s d).silent = false →
    (recOf s d).silentSince = some x → (s.jds.detector.get d).silentLimit * 60000 ≤ x.elapsed →
    ∃ t, exec (.detectorSilent d) s = .next t ∧ recOf t d = { recOf s d with silent := true } ∧
      (∀ e, e ≠ d → recOf t e = recOf s e) ∧ t.jds = s.jds ∧
      (s.flt.inbox = [] → t.flt = (takeRaise .detectorSilent (.detector d) 0xFF s).flt ∧
        (∀ k, (s.jds.detector.get d).demand.get k = true → s.seq.current ≠ some k → t.seq.demand.get k = true) ∧
        (∀ k, s.seq.state = .stage ∨ s.seq.state = .commit → s.seq.current = some k →
          (s.jds.detector.get d).extend.get k = true → t.seq.gap = some 0) ∧
        (s.lnk.kinds.get 8 = true → s.lnk.reports.length ≤ 29 →
          Reported s t .detectorState (.detector d) (detectorStateFields (recOf t d))))) ∧
  (∀ s : State, s.jds.desc = .accepted → 1000 ≤ s.det.intervalMs →
    let ends := fun d => s.jds.served d = true ∧ (recOf s d).activations ≤ 8 ∧ (recOf s d).chatter = true ∧
      59 ≤ (recOf s d).quiet
    ∃ t, exec .chatterIntervalEnd s = .next t ∧ t.jds = s.jds ∧
      (∀ d, s.jds.served d = true →
        (recOf t d).activations = 0 ∧
        ((recOf s d).activations ≤ 8 → (recOf s d).chatter = true → (recOf s d).quiet + 1 = 60 →
          (recOf t d).chatter = false ∧ (recOf t d).quiet = 0) ∧
        ((recOf s d).activations ≤ 8 → (recOf s d).quiet + 1 < 60 →
          (recOf t d).chatter = (recOf s d).chatter ∧ (recOf t d).quiet = (recOf s d).quiet + 1) ∧
        (8 < (recOf s d).activations → (recOf t d).chatter = (recOf s d).chatter ∧ (recOf t d).quiet = 0)) ∧
      (∀ d, s.jds.served d = false → recOf t d = recOf s d) ∧
      (s.flt.inbox = [] → s.flt.mode ≠ .dark →
        t.flt = { s.flt with list := t.flt.list, output := t.flt.output } ∧
        t.flt.list.length = s.flt.list.length ∧
        (∀ d, ends d → ∀ e, t.flt.list.find? (FEntry.is .detectorChatter (.detector d)) = some e → e.state = .cleared) ∧
        (∀ (i : Nat) (e : FEntry), s.flt.list[i]? = some e →
          (∀ d, ends d → ¬(e.kind = .detectorChatter ∧ e.subject = .detector d)) → t.flt.list[i]? = some e) ∧
        ∀ d, ends d → (∀ e, e ≠ d → ¬ends e) →
          t.flt = (takeClear .detectorChatter (.detector d) s).flt ∧
          (s.lnk.kinds.get 8 = true → s.lnk.reports.length ≤ 29 →
            Reported s t .detectorState (.detector d) (detectorStateFields (recOf t d)))))

/-- DETECTOR_READ (R80): one detector, or all in number order: the values held are returned, then the latches of each
named detector whose stored kind is not UNUSED are cleared except where their condition still holds. That this is so in
every description state, also between a part reset and the first acceptance, where R73 has the records stay unchanged,
is the model's choice of R80 (log 55). -/
def Obligations.DetectorReadClearsLatches : Prop :=
  let read := fun (s : State) (d : Detector) =>
    if (s.jds.detector.get d).kind = .unused then recOf s d
    else { recOf s d with assertSeen := (recOf s d).active, releaseSeen := !(recOf s d).active }
  (∀ (tag : Byte) (d : Detector) (s : State), takes s 0x2D tag [number d] = true →
    ∃ t, exec (.detectorRead tag [number d]) s = .next t ∧
      Replied s 0xAD tag (.gives (detBytes s d))
        { s with det := { s.det with record := s.det.record.set d (read s d) } } t) ∧
  (∀ (tag : Byte) (s : State), takes s 0x2D tag [0] = true →
    ∃ t, exec (.detectorRead tag [0]) s = .next t ∧
      Replied s 0xAD tag (.gives ((allFin 24).flatMap (detBytes s)))
        { s with det := { s.det with record := Tab.ofFn (read s) } } t) ∧
  (∀ (tag b : Byte) (s : State), takes s 0x2D tag [b] = true → 24 < b.toNat →
    ∃ t, exec (.detectorRead tag [b]) s = .next t ∧ Replied s 0xAD tag (.badField 1) s t)

/-! ### Relays, contactor and lamps-off switch (R86 to R105) -/

/-- RELAY_FEEDBACK_CHANGE (R87), SIGNALS_OFF_INPUT_CHANGE, SIGNALS_OFF_ASSERTED, SIGNALS_OFF_RELEASED (R104): a change
of a raw level starts its debounce from 0, a return to the accepted level cancels it; a lamps-off level held for 20 ms
is accepted, and FLT is handed the raise or the clear; nothing else changes before FLT takes it. -/
def Obligations.InputLevelsAreDebounced : Prop :=
  (∀ (c : Circuit) (closed : Bool) (s : State), (relayAt s c).coil.raw ≠ closed →
    exec (.relayFeedbackChange (.relay c) closed) s = .next { s with osw := { s.osw with
      relay := s.osw.relay.set c { relayAt s c with coil := { (relayAt s c).coil with
        raw := closed, debounce := if closed = (relayAt s c).coil.feedback then none else some 0 } } } }) ∧
  (∀ (closed : Bool) (s : State), s.osw.contactor.raw ≠ closed →
    exec (.relayFeedbackChange .contactor closed) s = .next { s with osw := { s.osw with
      contactor := { s.osw.contactor with
        raw := closed, debounce := if closed = s.osw.contactor.feedback then none else some 0 } } }) ∧
  (∀ (level : Bool) (s : State), s.osw.signalsOffRaw ≠ level →
    exec (.signalsOffInputChange level) s = .next { s with osw := { s.osw with
      signalsOffRaw := level
      signalsOffDebounce := if level = s.osw.signalsOff then none else some 0 } }) ∧
  (∀ (ms : Nat) (s : State), s.osw.signalsOffDebounce = some ms → 20 ≤ ms → s.osw.signalsOffRaw = true →
    s.osw.signalsOff = false →
    exec .signalsOffAsserted s = .next (conclude { s with
      osw := { s.osw with signalsOff := true, signalsOffDebounce := none }
      flt := { s.flt with inbox := s.flt.inbox ++ [.raise .signalsOff .none 0xFF] } })) ∧
  (∀ (ms : Nat) (s : State), s.osw.signalsOffDebounce = some ms → 20 ≤ ms → s.osw.signalsOffRaw = false →
    s.osw.signalsOff = true →
    exec .signalsOffReleased s = .next (conclude { s with
      osw := { s.osw with signalsOff := false, signalsOffDebounce := none }
      flt := { s.flt with inbox := s.flt.inbox ++ [.clear .signalsOff .none] } }))

/-- RELAY_FEEDBACK_ACCEPTED, RELAY_TRANSITION_TIMEOUT (R87, R89, R90): a level held for 5 ms, or the transition timer at
its limit, moves the relay by R89's table; entry into OPEN or CLOSED records the uptime and stops the timer; FLT hears
the raise or the clear with the circuit as subject; the coil's command and every other relay stay.
CONTACTOR_FEEDBACK_ACCEPTED, CONTACTOR_TRANSITION_TIMEOUT (R92, R53): the same for the contactor, with its own fault
kinds and no subject; its entry into CLOSED in START-ALL-RED starts the start-up all-red timer. What the other rules of
OSW make of it follows (`oswAfter`). -/
def Obligations.RelaysAndContactorAreProven : Prop :=
  (∀ (c : Circuit) (ms : Nat) (s : State), (relayAt s c).coil.debounce = some ms → 5 ≤ ms →
    let k := (relayAt s c).coil
    let r := feedbackTable .relayFailClosed .relayFailOpen (.circuit c) k.state k.raw
    ∃ u, exec (.relayFeedbackAccepted c) s = .next (conclude (oswAfter u)) ∧
      (relayAt u c).coil.state = r.1 ∧ (relayAt u c).coil.feedback = k.raw ∧ (relayAt u c).coil.debounce = none ∧
      (relayAt u c).coil.commanded = k.commanded ∧ (relayAt u c).switchCount = (relayAt s c).switchCount ∧
      (r.1 ≠ k.state → (relayAt u c).coil.timer = none ∧
        (r.1 = .open ∨ r.1 = .closed → (relayAt u c).coil.lastChange = some ⟨s.uptime, 0⟩)) ∧
      u.flt = { s.flt with inbox := s.flt.inbox ++ r.2 } ∧
      (∀ e, e ≠ c → relayAt u e = relayAt s e) ∧ u.osw.contactor = s.osw.contactor ∧ u.jds = s.jds ∧
      u.seq = s.seq) ∧
  (∀ (c : Circuit) (x : Timer) (s : State), (relayAt s c).coil.timer = some x → x.limit ≤ x.ms →
    let k := (relayAt s c).coil
    let r := expiryTable .relayFailClosed .relayFailOpen (.circuit c) k.state
    ∃ u, exec (.relayTransitionTimeout c) s = .next (conclude (oswAfter u)) ∧
      (relayAt u c).coil.state = r.1 ∧ (relayAt u c).coil.commanded = k.commanded ∧
      (r.1 ≠ k.state → (relayAt u c).coil.timer = none) ∧
      u.flt = { s.flt with inbox := s.flt.inbox ++ r.2 } ∧
      (∀ e, e ≠ c → relayAt u e = relayAt s e) ∧ u.osw.contactor = s.osw.contactor ∧ u.jds = s.jds ∧
      u.seq = s.seq) ∧
  (∀ (ms : Nat) (s : State), s.osw.contactor.debounce = some ms → 5 ≤ ms →
    let k := s.osw.contactor
    let r := feedbackTable .contactorFailClosed .contactorFailOpen .none k.state k.raw
    ∃ u, exec .contactorFeedbackAccepted s = .next (conclude (oswAfter u)) ∧
      u.osw.contactor.state = r.1 ∧ u.osw.contactor.feedback = k.raw ∧ u.osw.contactor.debounce = none ∧
      u.osw.contactor.commanded = k.commanded ∧
      (r.1 ≠ k.state → u.osw.contactor.timer = none ∧
        (r.1 = .open ∨ r.1 = .closed → u.osw.contactor.lastChange = some ⟨s.uptime, 0⟩)) ∧
      u.flt = { s.flt with inbox := s.flt.inbox ++ r.2 } ∧ u.osw.relay = s.osw.relay ∧ u.jds = s.jds ∧
      u.seq = (if s.seq.state = .startAllRed ∧ r.1 = .closed ∧ k.state ≠ .closed then
        { s.seq with allRed := some ⟨0, 100 * s.jds.timing.startUpAllRed⟩ } else s.seq)) ∧
  (∀ (x : Timer) (s : State), s.osw.contactor.timer = some x → x.limit ≤ x.ms →
    let k := s.osw.contactor
    let r := expiryTable .contactorFailClosed .contactorFailOpen .none k.state
    ∃ u, exec .contactorTransitionTimeout s = .next (conclude (oswAfter u)) ∧
      u.osw.contactor.state = r.1 ∧ u.osw.contactor.commanded = k.commanded ∧
      (r.1 ≠ k.state → u.osw.contactor.timer = none) ∧
      u.flt = { s.flt with inbox := s.flt.inbox ++ r.2 } ∧ u.osw.relay = s.osw.relay ∧ u.jds = s.jds ∧
      u.seq = s.seq)

/-- R88: a relay commanded to the level its coil does not have: the field changes, the switch count goes up by 1, the
state moves by R88's table with the two cases that the feedback settles at entry, the limit of a started timer is read
now, and FLT hears the clear of a failure that ends. R93, R94: in REDS-FIRST, once every fitted red is CLOSED, the
phase is LIVE and the contactor commanded on, and not before. R95, R96: in CONTACTOR-RELEASE, once the contactor is
OPEN or FAILED-CLOSED, every relay is commanded off and the phase is OUTPUTS-OFF; REDS-FIRST follows only behind a
contactor proven OPEN, in START-UP, and by the model's reading in ALL-RED too, and a contactor FAILED-CLOSED leaves the
outputs off in every mode (log 13). R97,
R98: a group command is stored, and in REDS-FIRST and LIVE acted on: of the group's circuits those leaving are
commanded off at once, those staying are untouched, those wanted are entering or, where the conditions of R99 hold
already, commanded on, those not wanted are no longer entering; a cable test on a circuit that is to be energised is
abandoned (R159). R103: the conflict condition of every group, with the raise and the clear of its changes. -/
def Obligations.RelayCommandsMoveRelays : Prop :=
  (∀ (c : Circuit) (on : Bool) (s : State), (relayAt s c).coil.commanded ≠ on →
    let k := (relayAt s c).coil
    let u := commandRelay c on s
    let r := commandTable .relayFailClosed .relayFailOpen (.circuit c) k.state k.feedback on
    (relayAt u c).coil.commanded = on ∧ (relayAt u c).switchCount = (relayAt s c).switchCount + 1 ∧
    (relayAt u c).coil.state = r.1 ∧ (relayAt u c).coil.feedback = k.feedback ∧
    (r.1 = .closing → k.state ≠ .closing →
      (relayAt u c).coil.timer = some ⟨0, s.jds.timing.pullIn⟩) ∧
    (r.1 = .opening → k.state ≠ .opening →
      (relayAt u c).coil.timer = some ⟨0, s.jds.timing.dropOut⟩) ∧
    ((r.1 = .open ∨ r.1 = .closed) → r.1 ≠ k.state →
      (relayAt u c).coil.timer = none ∧ (relayAt u c).coil.lastChange = some ⟨s.uptime, 0⟩) ∧
    u.flt = { s.flt with inbox := s.flt.inbox ++ r.2 } ∧
    (∀ e, e ≠ c → relayAt u e = relayAt s e) ∧ u.jds = s.jds ∧ u.seq = s.seq ∧ u.lnk = s.lnk) ∧
  (∀ (g : Group) (st : GState) (s : State),
    let u := groupCommand g st s
    u.osw.stored = s.osw.stored.set g st ∧ u.jds = s.jds ∧ u.seq.commanded = s.seq.commanded ∧
    (s.osw.phase = .outputsOff ∨ s.osw.phase = .contactorRelease →
      u = { s with osw := { s.osw with stored := s.osw.stored.set g st } }) ∧
    (s.osw.phase = .redsFirst ∨ s.osw.phase = .live →
      let aspects : List Aspect := match st with
        | .off => []
        | .red => [.red]
        | .redAmber => [.red, .amber]
        | .green => [.green]
        | .amber => [.amber]
      let wants := fun c => s.jds.fitted c = true ∧ aspectOf c ∈ aspects
      (∀ c, groupOf c = g →
        ((relayAt s c).coil.commanded = true → ¬wants c →
          (relayAt u c).coil.commanded = false ∧ (relayAt u c).entering = false) ∧
        ((relayAt s c).coil.commanded = true → wants c → (relayAt s c).entering = false →
          relayAt u c = relayAt s c) ∧
        ((relayAt s c).coil.commanded = false → wants c →
          (relayAt u c).entering = !(relayAt u c).coil.commanded ∧
          ∀ w, s.cbl.test = some w → w.circuit = c → Abandoned s w u) ∧
        ((relayAt s c).coil.commanded = false → ¬wants c →
          (relayAt u c).coil = (relayAt s c).coil ∧ (relayAt u c).entering = false)) ∧
      ∀ c, groupOf c ≠ g → (relayAt s c).entering = false → relayAt u c = relayAt s c)) ∧
  (∀ s : State, s.osw.phase = .redsFirst →
    ((∀ c, aspectOf c = .red → s.jds.fitted c = true → relayState s c = .closed) →
      (oswAfter s).osw.phase = .live ∧ (oswAfter s).osw.contactor.commanded = true) ∧
    ((∀ c, (relayAt s c).entering = false) →
      (∃ c, aspectOf c = .red ∧ s.jds.fitted c = true ∧ relayState s c ≠ .closed) →
      (oswAfter s).osw.phase = .redsFirst ∧ (oswAfter s).osw.contactor = s.osw.contactor)) ∧
  (∀ s : State, s.osw.phase = .contactorRelease →
    (s.osw.contactor.state = .open ∨ s.osw.contactor.state = .failedClosed →
      (∀ c, (relayAt (darkCheck s) c).coil.commanded = false) ∧
      (s.flt.mode = .startUp ∨ s.flt.mode = .allRed → s.osw.contactor.state = .open →
        (darkCheck s).osw.phase = .redsFirst) ∧
      (s.osw.contactor.state = .failedClosed ∨ (s.flt.mode ≠ .startUp ∧ s.flt.mode ≠ .allRed) →
        (darkCheck s).osw.phase = .outputsOff ∧
        (oswAfter s).osw.phase = .outputsOff ∧ ∀ c, (relayAt (oswAfter s) c).coil.commanded = false)) ∧
    (s.osw.contactor.state ≠ .open → s.osw.contactor.state ≠ .failedClosed → darkCheck s = s)) ∧
  (∀ (g : Group) (s : State),
    let t := oswAfter s
    t.osw.conflict.get g = true ↔ s.jds.used g = true ∧ t.osw.contactor.state ≠ .open ∧
      relayState t (greenOf g) ≠ .open ∧
      ∃ h, g < h ∧ s.jds.used h = true ∧ s.jds.conflicts g h = true ∧ relayState t (greenOf h) ≠ .open) ∧
  (∀ (g : Group) (s : State),
    let now := (conflictGroup g s).osw.conflict.get g
    conflictGroup g s = { s with
      osw := { s.osw with conflict := s.osw.conflict.set g now }
      flt := { s.flt with
        inbox := s.flt.inbox ++
          edge (s.osw.conflict.get g) now (.raise .conflict (.group g) 0xFF) (.clear .conflict (.group g)) } })

/-- DEAD_TIME_ELAPSED (R99 to R101): with a relay OPEN for the dead time, the one entering circuit is commanded on when
the phase, the other circuits of its group, the green interlock and the injector allow it, and is left entering when a
circuit of its group that is not wanted is not OPEN or not yet for the dead time (break before make), when a
conflicting green is not OPEN, when its judgement waits for a newer command of the moment (R102, log 47), or when the
injector is connected to it; then OSW asks once for the injector's release, and the test in flight is abandoned. -/
def Obligations.DeadTimeEnergisesEnteringCircuit : Prop :=
  ∀ (c e : Circuit) (s : State), relayState s c = .open →
    (∀ x, (relayAt s c).coil.lastChange = some x → s.jds.timing.deadTime ≤ x.elapsed) →
    (relayAt s e).entering = true → (∀ d, d ≠ e → (relayAt s d).entering = false) →
    (relayAt s e).coil.commanded = false → s.osw.phase = .redsFirst ∨ s.osw.phase = .live →
    ∃ u, exec (.deadTimeElapsed c) s = .next (conclude u) ∧
      ((∀ o, groupOf o = groupOf e → o ≠ e → s.jds.fitted o = true → wanted s o = false →
          relayState s o = .open ∧
            ∀ x, (relayAt s o).coil.lastChange = some x → s.jds.timing.deadTime ≤ x.elapsed) →
        (aspectOf e = .green → ∀ g, s.jds.conflicts (groupOf e) g = true → relayState s (greenOf g) = .open) →
        s.cbl.pos.circuit ≠ some e → s.osw.freed ≠ some e →
        (relayAt u e).coil.commanded = true ∧ (relayAt u e).entering = false) ∧
      ((aspectOf e = .green ∧ ∃ g, s.jds.conflicts (groupOf e) g = true ∧ relayState s (greenOf g) ≠ .open) ∨
          s.cbl.pos.circuit = some e ∨ s.osw.freed = some e ∨
          (∃ o, groupOf o = groupOf e ∧ o ≠ e ∧ s.jds.fitted o = true ∧ wanted s o = false ∧
            (relayState s o ≠ .open ∨
              ∃ x, (relayAt s o).coil.lastChange = some x ∧ x.elapsed < s.jds.timing.deadTime)) →
        (relayAt u e).coil.commanded = false ∧ (relayAt u e).entering = true) ∧
      (s.cbl.pos.circuit = some e → (relayAt s e).releaseAsked = false →
        (relayAt u e).releaseAsked = true ∧ (∀ w, s.cbl.test = some w → Abandoned s w u) ∧
        (∀ m, s.cbl.pos = .on e m → u.cbl.pos = .releasing e m false ∧ u.cbl.release = some ⟨0, 100⟩) ∧
        ∀ m a, s.cbl.pos = .releasing e m a → u.cbl.pos = s.cbl.pos ∧ u.cbl.release = s.cbl.release) ∧
      u.jds = s.jds

/-! ### Measurement (R108 to R123) -/

/-- CONVERSION_COMPLETE (R109, R110, R113, R116, R118, R120, R121): the window's end delivers the count, 0 to 4095, to
its channel's reader: the supply value and state with their runs, the reference, the offset; a reading of another
channel, and an offset made void by the bypass (R117, log 30), leaves each of MEA's own readings, runs and conditions
as it is. R119, R121: FLT hears MEASUREMENT-FAULT raised as the first of the offset and reference conditions arises and
cleared as the last ends, and SUPPLY-LOSS as its condition arises and ends, and takes it (`afterDelivery`). -/
def Obligations.ConversionDelivers : Prop :=
  ∀ (v : Conv) (q : Req) (input : Int) (s : State), s.mea.conv = some v → v.window ≤ v.elapsed →
    s.mea.slot v.slot = .converting q →
    let r := min input.toNat 4095
    let vn := s.jds.timing.nominal
    ∃ t, exec (.conversionComplete input) s = .next t ∧ t.uptime = s.uptime ∧ t.jds = s.jds ∧ t.det = s.det ∧
      (q.channel = .supply →
        t.mea.s = r ∧
        t.mea.supply = (if r < vn / 2 then .absent else if r < 4 * vn / 5 then .low else .normal) ∧
        t.mea.supAbsent = (if r < vn / 2 then min (s.mea.supAbsent + 1) 3 else 0) ∧
        t.mea.supNormal = (if ¬r < vn / 2 ∧ ¬r < 4 * vn / 5 then min (s.mea.supNormal + 1) 10 else 0) ∧
        (t.mea.supAbsent = 3 → t.mea.lossCond = true) ∧ (t.mea.supNormal = 10 → t.mea.lossCond = false) ∧
        (t.mea.supAbsent < 3 → t.mea.supNormal < 10 → t.mea.lossCond = s.mea.lossCond)) ∧
      (q.channel ≠ .supply → t.mea.s = s.mea.s ∧ t.mea.supply = s.mea.supply ∧ t.mea.lossCond = s.mea.lossCond ∧
        t.mea.supAbsent = s.mea.supAbsent ∧ t.mea.supNormal = s.mea.supNormal) ∧
      (q.channel ≠ .ref → t.mea.lastRef = s.mea.lastRef ∧ t.mea.refBad = s.mea.refBad ∧
        t.mea.refGood = s.mea.refGood ∧ t.mea.refCond = s.mea.refCond) ∧
      (q.channel ≠ .offset ∨ s.mea.bypass ≠ none ∨ s.mea.offVoid = true →
        t.mea.lastOffset = s.mea.lastOffset ∧ t.mea.measured = s.mea.measured ∧ t.mea.offBad = s.mea.offBad ∧
        t.mea.offGood = s.mea.offGood ∧ t.mea.offCond = s.mea.offCond) ∧
      t.mea.bypass = s.mea.bypass ∧
      (q.channel = .supply ∨ q.channel = .ref ∨ q.channel = .offset → ∃ u, t = finish (afterDelivery v u) ∧
        u.flt = { s.flt with
          inbox := s.flt.inbox ++
            edge (s.mea.offCond || s.mea.refCond) (t.mea.offCond || t.mea.refCond)
              (.raise .measurementFault .none 0xFF) (.clear .measurementFault .none) ++
            edge s.mea.lossCond t.mea.lossCond (.raise .supplyLoss .none 0xFF) (.clear .supplyLoss .none) } ∧
        u.seq = s.seq ∧ u.osw = s.osw ∧ u.plans = s.plans ∧ u.cbl = s.cbl ∧ u.lnk = s.lnk) ∧
      (q.channel = .ref →
        t.mea.lastRef = some r ∧
        (2007 ≤ r ∧ r ≤ 2089 → t.mea.refBad = 0 ∧ t.mea.refGood = min (s.mea.refGood + 1) 10 ∧
          t.mea.refCond = (s.mea.refCond && decide (t.mea.refGood ≠ 10))) ∧
        (¬(2007 ≤ r ∧ r ≤ 2089) → t.mea.refGood = 0 ∧ t.mea.refBad = min (s.mea.refBad + 1) 3 ∧
          t.mea.refCond = (s.mea.refCond || decide (t.mea.refBad = 3)))) ∧
      (q.channel = .offset → s.mea.bypass = none → s.mea.offVoid = false →
        t.mea.lastOffset = some r ∧
        (r ≤ 100 → t.mea.measured = r ∧ t.mea.offBad = 0 ∧ t.mea.offGood = min (s.mea.offGood + 1) 10 ∧
          t.mea.offCond = (s.mea.offCond && decide (t.mea.offGood ≠ 10))) ∧
        (100 < r → t.mea.measured = s.mea.measured ∧ t.mea.offGood = 0 ∧
          t.mea.offBad = min (s.mea.offBad + 1) 3 ∧
          t.mea.offCond = (s.mea.offCond || decide (t.mea.offBad = 3))))

/-- DIAGNOSTIC_DUE (R115): every 200 ms SUPPLY falls due, every fifth time REF too, and OFFSET while the bypass is off;
before the 200 ms no flag is set, and what is due is placed while the DIAG slot is EMPTY (log 8).
MEASURE_SET_ON, MEASURE_SET_OFF (R117): the bypass takes the value, clamped to 4095 with the CLAMPED flag, or turns
off; the offset's runs and condition start afresh, and MEASUREMENT-FAULT is cleared if the offset's condition alone was
present; a WAITING OFFSET request is withdrawn and a CONVERTING one made void; the setting already in force changes
nothing. R112: a free engine grants PROOF, then DIAG, then ROUTINE and CBL in turn; the window starts then, `carry`
microseconds before the present (log 10). -/
def Obligations.DiagnosticsAndBypass : Prop :=
  (∀ s : State, 200 ≤ s.mea.diagMs →
    exec .diagnosticDue s = .next (conclude { s with mea := { s.mea with
      dueSupply := true
      dueRef := s.mea.dueRef || decide (s.mea.diagPhase = 0)
      dueOffset := s.mea.dueOffset || (decide (s.mea.diagPhase = 0) && s.mea.bypass.isNone)
      diagMs := s.mea.diagMs - 200
      diagPhase := s.mea.diagPhase + 1 } })) ∧
  (∀ s : State, s.mea.diagMs < 200 →
    exec .diagnosticDue s = .next (if s.mea.diag = .empty ∧
      (s.mea.dueSupply = true ∨ s.mea.dueRef = true ∨ s.mea.dueOffset = true) then conclude s else s)) ∧
  (∀ (tag : Byte) (n : BitVec 16) (s : State), let body := 1 :: be16 n.toNat
    takes s 0x32 tag body = true →
    ∃ t, exec (.measureSetOn tag body) s = .next t ∧
      Answered s 0xB2 tag (.done (decide (4095 < n.toNat)) []) t ∧ t.mea.bypass = some (min n.toNat 4095) ∧
      offsetInUse t = min n.toNat 4095 ∧ t.mea.measured = s.mea.measured ∧ t.jds = s.jds ∧
      (s.mea.bypass = some (min n.toNat 4095) →
        Replied s 0xB2 tag (.done (decide (4095 < n.toNat)) []) s t) ∧
      (s.mea.bypass ≠ some (min n.toNat 4095) → t.mea.offBad = 0 ∧ t.mea.offGood = 0 ∧ t.mea.offCond = false ∧
        t.mea.dueOffset = false ∧
        ∃ u, Replied s 0xB2 tag (.done (decide (4095 < n.toNat)) []) (settle u) t ∧
          u.mea = { s.mea with
            bypass := some (min n.toNat 4095), dueOffset := false, offBad := 0, offGood := 0, offCond := false
            diag := u.mea.diag, offVoid := u.mea.offVoid } ∧
          (∀ q, s.mea.diag = .waiting q → q.channel = .offset → u.mea.diag = .empty ∧ u.mea.offVoid = s.mea.offVoid) ∧
          (∀ q, s.mea.diag = .converting q → q.channel = .offset → u.mea.diag = s.mea.diag ∧ u.mea.offVoid = true) ∧
          ((∀ q, s.mea.diag = .waiting q ∨ s.mea.diag = .converting q → q.channel ≠ .offset) →
            u.mea.diag = s.mea.diag ∧ u.mea.offVoid = s.mea.offVoid) ∧
          u.flt = { s.flt with
            inbox := s.flt.inbox ++
              edge (s.mea.offCond || s.mea.refCond) s.mea.refCond
                (.raise .measurementFault .none 0xFF) (.clear .measurementFault .none) } ∧
          u.jds = s.jds ∧ u.seq = s.seq ∧ u.osw = s.osw ∧ u.plans = s.plans ∧ u.lmp = s.lmp ∧ u.cbl = s.cbl)) ∧
  (∀ (tag a b : Byte) (s : State), takes s 0x32 tag [0, a, b] = true →
    ∃ t, exec (.measureSetOff tag [0, a, b]) s = .next t ∧ Answered s 0xB2 tag .ok t ∧ t.mea.bypass = none ∧
      offsetInUse t = s.mea.measured ∧ t.jds = s.jds ∧
      (s.mea.bypass = none → Replied s 0xB2 tag .ok s t) ∧
      (s.mea.bypass ≠ none → t.mea.offBad = 0 ∧ t.mea.offGood = 0 ∧ t.mea.offCond = false)) ∧
  (∀ (tag x a b : Byte) (s : State), takes s 0x32 tag [x, a, b] = true → x ≠ 0 → x ≠ 1 →
    ∃ t, exec (.measureSetOn tag [x, a, b]) s = .next t ∧ Replied s 0xB2 tag (.badField 1) s t) ∧
  ∀ (carry : Nat) (s : State),
    let waits := fun i => ∃ q, s.mea.slot i = SlotContent.waiting q
    let first := fun i : MSlot => match i with
      | .proof => True
      | .diag => ¬waits .proof
      | .routine => ¬waits .proof ∧ ¬waits .diag ∧ (waits .cbl → s.mea.lastCbl = true)
      | .cbl => ¬waits .proof ∧ ¬waits .diag ∧ (waits .routine → s.mea.lastCbl = false)
    (s.mea.conv ≠ none ∨ (∀ i, ¬waits i) → grant carry s = s) ∧
    ∀ i q, s.mea.conv = none → s.mea.slot i = .waiting q → first i →
      grant carry s = { s with mea := { s.mea.put i (.converting q) with
        conv := some ⟨i, s.uptime - BitVec.ofNat 32 ((carry + 999) / 1000),
          if s.jds.timing.mains = 60 then 8333 else 10000, carry⟩
        lastCbl := match i with | .cbl => true | .routine => false | .proof | .diag => s.mea.lastCbl } }

/-! ### Lamps (R124 to R145) -/

/-- LAMP_LEARN (R134), every row: BAD-FIELD for a circuit that is not fitted, BUSY while LEARNING; taken, the section
starts learning with its kept fields kept, and the faults of the conditions that were present are cleared. -/
def Obligations.LampLearnTable : Prop :=
  (∀ (tag b : Byte) (s : State), takes s 0x29 tag [b] = true → (∀ c, b = number c → s.jds.fitted c = false) →
    ∃ t, exec (.lampLearn tag [b]) s = .next t ∧ Replied s 0xA9 tag (.badField 1) s t) ∧
  ∀ (tag : Byte) (c : Circuit) (s : State), takes s 0x29 tag [number c] = true → s.jds.fitted c = true →
    let x := s.lmp.lamp.get c
    ∃ t, exec (.lampLearn tag [number c]) s = .next t ∧
      (x.state = .learning → Replied s 0xA9 tag .busy s t) ∧
      (x.state ≠ .learning → ∃ u, Replied s 0xA9 tag .ok (settle u) t ∧
        u.lmp.lamp.get c = { x with
          state := .learning, p := 0, e := none, learn := 0, downRun := 0, upRun := 0, overRun := 0
          overcurrent := false, degraded := false, out := false } ∧
        (∀ d, d ≠ c → u.lmp.lamp.get d = s.lmp.lamp.get d) ∧
        (∀ k, FltEvent.clear k (.circuit c) ∈ u.flt.inbox ↔ FltEvent.clear k (.circuit c) ∈ s.flt.inbox ∨
          (k = .lampDegraded ∧ x.degraded = true) ∨ (k = .lampOut ∧ x.out = true) ∨
          (k = .lampOvercurrent ∧ x.overcurrent = true)) ∧
        u.jds = s.jds ∧ u.osw = s.osw ∧ u.seq = s.seq)

/-- R125, R140: which circuits are evaluable, awaiting proof and off-check eligible; a relay with no time of last
proven change counts as settled (log 14, the model's). LAMP_SETTLE_TIME_ELAPSED, OFF_CHECK_ELIGIBILITY_TIME (R126,
R127): LMP's empty slots take at once the requests that its rules choose, outside DARK, with the switch count carried:
the proof slot the lowest red awaiting proof; the routine slot an evaluation of the next routine-eligible circuit after
its pointer, or, after eight evaluations or with none to evaluate, the off-check of the next eligible circuit after its
own pointer. -/
def Obligations.LampRequestsArePlaced : Prop :=
  (∀ (c : Circuit) (s : State),
    let settled := fun ms => ∀ x, (relayAt s c).coil.lastChange = some x → ms ≤ x.elapsed
    (evaluable s c = true ↔ s.jds.fitted c = true ∧ relayState s c = .closed ∧ s.osw.contactor.state = .closed ∧
      settled (if (s.jds.circuit.get c).technology = .filament then 200 else 500) ∧ s.mea.supply ≠ .absent) ∧
    (awaitingProof s c = true ↔ aspectOf c = .red ∧ evaluable s c = true ∧
      (s.lmp.lamp.get c).evalCount ≠ some (relayAt s c).switchCount) ∧
    (offEligible s c = true ↔ s.jds.fitted c = true ∧ relayState s c = .open ∧ settled 300 ∧
      s.osw.contactor.state = .closed ∧ ∀ m a, s.cbl.pos ≠ .on c m ∧ s.cbl.pos ≠ .releasing c m a)) ∧
  ∀ (c : Circuit) (i : Instr) (s : State),
    (i = .lampSettleTimeElapsed c ∧ evaluable s c = true) ∨ (i = .offCheckEligibilityTime c ∧ offEligible s c = true) →
    s.flt.inbox = [] → s.flt.mode ≠ .dark →
    let routine := fun e => evaluable s e && !awaitingProof s e
    let asked := fun (x : SlotContent) (d : Circuit) (off : Bool) =>
      x = .waiting ⟨.current d, countOf s d, off⟩ ∨ x = .converting ⟨.current d, countOf s d, off⟩
    ∃ t, exec i s = .next t ∧ t.jds = s.jds ∧ t.osw = s.osw ∧ t.seq = s.seq ∧ t.flt = s.flt ∧
      t.lmp.lamp = s.lmp.lamp ∧
      (∀ d, s.mea.proof = .empty → awaitingProof s d = true → (∀ e, e < d → awaitingProof s e = false) →
        asked t.mea.proof d false) ∧
      (s.mea.proof = .empty → (∀ d, awaitingProof s d = false) → t.mea.proof = .empty) ∧
      (∀ d, s.mea.routine = .empty → NextAfter s.lmp.routinePtr routine d →
        s.lmp.evals ≠ 8 ∨ (∀ e, offEligible s e = false) →
        t.lmp.routinePtr = some d ∧ t.lmp.offPtr = s.lmp.offPtr ∧ t.lmp.evals = min (s.lmp.evals + 1) 8 ∧
        asked t.mea.routine d false) ∧
      (∀ d, s.mea.routine = .empty → NextAfter s.lmp.offPtr (offEligible s) d →
        s.lmp.evals = 8 ∨ (∀ e, routine e = false) →
        t.lmp.offPtr = some d ∧ t.lmp.routinePtr = s.lmp.routinePtr ∧ t.lmp.evals = 0 ∧ asked t.mea.routine d true) ∧
      (s.mea.routine = .empty → (∀ e, routine e = false) → (∀ e, offEligible s e = false) →
        t.lmp = s.lmp ∧ t.mea.routine = .empty)

/-- R129 to R133, R135, R136, R139: what an evaluation makes of a lamp section: the filter, the estimate, the confirmed
count that moves only to the estimate, down at the third and up at the fifth evaluation running, the state, learning,
the proof flag, the red-out, degraded, out and overcurrent conditions (learning's last evaluation as log 25 has it).
CONVERSION_COMPLETE of a current channel (R113, R128): a result whose switch count has changed, or whose circuit is no
longer evaluable or off-check eligible, leaves every lamp section as it is; a taken evaluation makes that section, with
the cause of an entry into OUT (R141), the retest count (R144) and what FLT hears, in the order of R138; a taken
off-check moves the off-check state (R140). R43: where the evaluation sets the proof flag, a HELD entry is issued if
every flag it waits for is set then, and stays HELD if one is not. The detail of a RED-OUT without an entry into OUT is
free (log 20), and a learned p has no limit of 4095 (R133 against R124's range: log 56, the model's choice). LEARN-DONE
is posted before SEQ hears of the proof and FLT of the faults (R133, R138 do not order it among them: log 70, the
model's choice). -/
def Obligations.EvaluationsConfirmSlowly : Prop :=
  (∀ (c : Circuit) (count : BitVec 16) (r : Nat) (s : State) (x : Lamp),
    let y := x.evaluated s c count r
    let floor := (s.jds.group.get (groupOf c)).redFloor
    let d := s.jds.circuit.get c
    let n := d.lamps
    let raw := r - offsetInUse s
    let i := if d.technology = .filament ∧ s.mea.supply = .normal then
      (raw * s.jds.timing.nominal + s.mea.s / 2) / s.mea.s else raw
    let lit := (if d.technology = .filament then 150 else 25) ≤ y.avg.getD 0
    let byCount : LampState := if y.k = n then .proven else if y.k = 0 then .out else .degraded
    let high := 3 * n * y.p / 2 < y.avg.getD 0
    (aspectOf c = .red → x.proof = false → y.proof = true →
      floor ≤ y.k ∧ (coarse s x = false → ∃ e, y.e = some e ∧ floor ≤ e)) ∧
    (aspectOf c = .red → coarse s x = false → ∀ e, y.e = some e →
      (e < floor → y.proof = false) ∧ (floor ≤ e → floor ≤ y.k → y.proof = true) ∧
      (floor ≤ e → y.k < floor → y.proof = x.proof)) ∧
    (aspectOf c ≠ .red → y.proof = x.proof) ∧
    (aspectOf c = .red → coarse s x = true →
      (¬lit → y.proof = false) ∧ (lit → floor ≤ y.k → y.proof = true) ∧ (lit → y.k < floor → y.proof = x.proof)) ∧
    (y.k ≠ x.k → coarse s x = false ∧ y.e = some y.k ∧
      ((y.k < x.k ∧ 2 ≤ x.downRun) ∨ (x.k < y.k ∧ 4 ≤ x.upRun))) ∧
    y.k ≤ max x.k n ∧ y.evalCount = some count ∧
    y.avg = some (match x.avg with
      | some a => if x.evalCount = some count then (3 * a + i + 2) / 4 else i
      | none => i) ∧
    (x.p = 0 → y.e = x.e) ∧ (x.p ≠ 0 → y.e = some (min ((y.avg.getD 0 + x.p / 2) / x.p) n)) ∧
    (coarse s x = true → y.k = x.k ∧ y.downRun = x.downRun ∧ y.upRun = x.upRun) ∧
    (coarse s x = false → ∀ e, y.e = some e →
      (e < x.k → y.upRun = 0 ∧ (x.downRun + 1 < 3 → y.k = x.k ∧ y.downRun = x.downRun + 1) ∧
        (3 ≤ x.downRun + 1 → y.k = e ∧ y.downRun = 0)) ∧
      (x.k < e → y.downRun = 0 ∧ (x.upRun + 1 < 5 → y.k = x.k ∧ y.upRun = x.upRun + 1) ∧
        (5 ≤ x.upRun + 1 → y.k = e ∧ y.upRun = 0)) ∧
      (e = x.k → y.k = x.k ∧ y.downRun = 0 ∧ y.upRun = 0)) ∧
    (x.state ≠ .learning → y.state = byCount ∧ y.p = x.p ∧ y.learn = x.learn) ∧
    (x.state = .learning →
      (s.mea.supply = .normal → lit → 8 ≤ x.learn + 1 →
        y.state = byCount ∧ y.p = max 1 (y.avg.getD 0 / n) ∧ y.learn = 0) ∧
      (s.mea.supply = .normal → lit → x.learn + 1 < 8 →
        y.state = .learning ∧ y.p = x.p ∧ y.learn = x.learn + 1) ∧
      (s.mea.supply = .normal → ¬lit → y.state = .learning ∧ y.p = x.p ∧ y.learn = 0) ∧
      (s.mea.supply ≠ .normal → y.state = .learning ∧ y.p = x.p ∧ y.learn = x.learn)) ∧
    (y.degraded = true ↔ y.state = .degraded) ∧ (y.out = true ↔ y.state = .out ∧ aspectOf c ≠ .red) ∧
    (aspectOf c = .red → y.k ≠ x.k → (y.redOut = true ↔ y.k < floor)) ∧
    (aspectOf c ≠ .red ∨ y.k = x.k → y.redOut = x.redOut) ∧
    (y.p = 0 → y.overRun = x.overRun ∧ y.overcurrent = x.overcurrent) ∧
    (y.p ≠ 0 → (high ↔ x.overcurrent = true) → y.overRun = 0 ∧ y.overcurrent = x.overcurrent) ∧
    (y.p ≠ 0 → ¬(high ↔ x.overcurrent = true) →
      (x.overRun + 1 < 3 → y.overRun = x.overRun + 1 ∧ y.overcurrent = x.overcurrent) ∧
      (3 ≤ x.overRun + 1 → y.overRun = 0 ∧ y.overcurrent = !x.overcurrent))) ∧
  ∀ (v : Conv) (q : Req) (c : Circuit) (input : Int) (s : State), s.mea.conv = some v → v.window ≤ v.elapsed →
    s.mea.slot v.slot = .converting q → q.channel = .current c →
    let r := min input.toNat 4095
    let x := s.lmp.lamp.get c
    let j := Subject.circuit c
    let red := Subject.group (groupOf c)
    let emptied : Mea := { s.mea.put v.slot .empty with conv := none }
    (q.count ≠ countOf s c ∨ (q.offCheck = false ∧ evaluable s c = false) ∨
        (q.offCheck = true ∧ offEligible s c = false) → s.flt.inbox = [] →
      ∃ t, exec (.conversionComplete input) s = .next t ∧ t.lmp.lamp = s.lmp.lamp ∧ t.cbl.cable = s.cbl.cable ∧
        t.jds = s.jds ∧ t.seq = s.seq ∧ t.osw = s.osw ∧ t.flt = s.flt) ∧
    (q.count = countOf s c → q.offCheck = false → evaluable s c = true →
      let y := x.evaluated s c q.count r
      let entered : Bool := y.state = .out && x.state ≠ .out
      let cause : Cause := if (s.cbl.cable.get c).openRun.confirmed then .cable
        else if cableState s c = .healthy then .lamp else .unknown
      ∃ u detail, exec (.conversionComplete input) s = .next (finish (afterDelivery v u)) ∧
        (u.lmp.lamp.get c = { y with
          proof := (u.lmp.lamp.get c).proof
          cause := if entered then some cause else x.cause
          retest := if s.mea.supply = .normal then retestAfter x.retest else x.retest }) ∧
        (∀ d, d ≠ c → u.lmp.lamp.get d = { s.lmp.lamp.get d with proof := (u.lmp.lamp.get d).proof }) ∧
        (entered = true → (u.cbl.cable.get c).retestDue = true ∧ detail = cause.code) ∧
        u.jds = s.jds ∧ u.det = s.det ∧
        (s.seq.state = .interstage → x.proof = false → y.proof = true →
          (∀ a ∈ s.seq.timetable, a.status = .held → a.state = .green) →
          ∀ a ∈ s.seq.timetable, a.status = .held →
            ((∀ h, s.jds.conflicts a.group h = true → (u.lmp.lamp.get (redOf h)).proof = true) →
              { a with status := .issued } ∈ u.seq.timetable ∧ u.seq.commanded.get a.group = .green ∧
              u.osw.stored.get a.group = .green) ∧
            ((∃ h, redOf h ≠ c ∧ s.jds.conflicts a.group h = true ∧ (s.lmp.lamp.get (redOf h)).proof = false) →
              a ∈ u.seq.timetable)) ∧
        ((∀ e ∈ s.seq.timetable, e.status ≠ .held) →
          (u.lmp.lamp.get c).proof = y.proof ∧ (∀ d, d ≠ c → u.lmp.lamp.get d = s.lmp.lamp.get d) ∧
          u.mea = emptied ∧ u.seq = s.seq ∧ u.osw = s.osw ∧
          u.lnk = (if x.state = .learning ∧ y.state ≠ .learning then
            (post .learnDone false (.circuit c) (be16 y.p ++ [b8 (s.jds.circuit.get c).lamps, b8 y.k]) s).lnk
            else s.lnk) ∧
          u.flt = { s.flt with inbox := u.flt.inbox } ∧
          u.flt.inbox = s.flt.inbox ++
            edge x.redOut y.redOut (.raise .redOut red detail) (.clear .redOut red) ++
            (if x.degraded && !y.degraded then [.clear .lampDegraded j] else []) ++
            (if x.out && !y.out then [.clear .lampOut j] else []) ++
            (if y.degraded && !x.degraded then [.raise .lampDegraded j 0xFF] else []) ++
            (if y.out && !x.out then [.raise .lampOut j detail] else []) ++
            edge x.overcurrent y.overcurrent (.raise .lampOvercurrent j 0xFF) (.clear .lampOvercurrent j) ++
            (if s.mea.supply = .normal ∧ x.retest.any (fun n => 3 ≤ n + 1) = true then
              (if aspectOf c = .red && !y.redOut then [.passed .redOut red] else []) ++
              (if !y.degraded then [.passed .lampDegraded j] else []) ++
              (if !y.out then [.passed .lampOut j] else []) ++
              (if !y.overcurrent then [.passed .lampOvercurrent j] else [])
            else []))) ∧
    (q.count = countOf s c → q.offCheck = true → offEligible s c = true →
      let high := (if (s.jds.circuit.get c).technology = .filament then 60 else 10) < r - offsetInUse s
      ∃ u z, exec (.conversionComplete input) s = .next (finish (afterDelivery v u)) ∧
        z = { x with
          onWhenOff := z.onWhenOff, highRun := z.highRun, lowRun := z.lowRun
          offRetest := retestAfter x.offRetest } ∧
        (x.onWhenOff = false → high → z.lowRun = 0 ∧
          (x.highRun + 1 < 2 → z.highRun = x.highRun + 1 ∧ z.onWhenOff = false) ∧
          (2 ≤ x.highRun + 1 → z.highRun = 0 ∧ z.onWhenOff = true)) ∧
        (x.onWhenOff = false → ¬high → z.highRun = 0 ∧ z.lowRun = x.lowRun ∧ z.onWhenOff = false) ∧
        (x.onWhenOff = true → high → z.lowRun = 0 ∧ z.highRun = x.highRun ∧ z.onWhenOff = true) ∧
        (x.onWhenOff = true → ¬high → z.highRun = x.highRun ∧
          (x.lowRun + 1 < 3 → z.lowRun = x.lowRun + 1 ∧ z.onWhenOff = true) ∧
          (3 ≤ x.lowRun + 1 → z.lowRun = 0 ∧ z.onWhenOff = false)) ∧
        u = { s with
          mea := emptied
          lmp := { s.lmp with lamp := s.lmp.lamp.set c z }
          flt := { s.flt with
            inbox := s.flt.inbox ++
              edge x.onWhenOff z.onWhenOff (.raise .onWhenOff j 0xFF) (.clear .onWhenOff j) ++
              (if x.offRetest.any (fun n => 3 ≤ n + 1) && !z.onWhenOff then [.passed .onWhenOff j] else []) } })

/-! ### Cables (R146 to R165) -/

/-- CABLE_TEST_NOW, CABLE_SUSPEND, CABLE_RESUME (R160, R162 to R164): the flag of the named circuit that each sets or
clears, with no other circuit's section changed; a test in flight on a circuit that is suspended is abandoned, its
WAITING request withdrawn and, from ON, the injector's release commanded with its limit of 100 ms (R148); BUSY for a
circuit under test; BAD-FIELD for one that is not fitted. A suspension and its end are reported with CABLE-STATE; a
circuit overdue as its suspension ends has its flag set and TEST-OVERDUE posted (R162; after CABLE-STATE by the model's
choice, log 57; behind a presence byte of 0 the time is free, log 22). -/
def Obligations.CableRequests : Prop :=
  (∀ (tag : Byte) (c : Circuit) (s : State), s.jds.fitted c = true → s.flt.inbox = [] →
    let x := s.cbl.cable.get c
    let shows := fun y : CableState => [position [.untested, .healthy, .suspect, .faulty, .suspended] y,
      packByte [x.openRun.confirmed, x.shortRun.confirmed, x.insulationRun.confirmed, x.foreignRun.confirmed],
      flagByte x.induced]
    let past := 2 * ((s.jds.circuit.get c).testPeriod * 60000) ≤ x.dueFrom.elapsed
    (takes s 0x2A tag [number c] = true → ∃ t, exec (.cableTestNow tag [number c]) s = .next t ∧
      ((∃ w, s.cbl.test = some w ∧ w.circuit = c) → Replied s 0xAA tag .busy s t) ∧
      (¬(∃ w, s.cbl.test = some w ∧ w.circuit = c) → Answered s 0xAA tag .ok t ∧
        t.cbl.cable = s.cbl.cable.set c { x with retestDue := true } ∧ t.jds = s.jds ∧ t.osw = s.osw ∧
        t.flt = s.flt)) ∧
    (takes s 0x2B tag [number c] = true → ∃ t, exec (.cableSuspend tag [number c]) s = .next t ∧
      (x.suspended = true → Replied s 0xAB tag .ok s t) ∧
      (x.suspended = false → Answered s 0xAB tag .ok t ∧ t.jds = s.jds ∧ t.osw = s.osw ∧ t.flt = s.flt ∧
        (¬(∃ w, s.cbl.test = some w ∧ w.circuit = c) →
          t.cbl.cable = s.cbl.cable.set c { x with suspended := true, overdue := false }) ∧
        (∀ m, (∃ w, s.cbl.test = some w ∧ w.circuit = c) → s.cbl.pos = .on c m →
          t.cbl.cable = s.cbl.cable.set c { x with
            suspended := true, overdue := false, abandons := min (x.abandons + 1) 255 } ∧
          t.cbl.pos = .releasing c m false ∧ t.cbl.release = some ⟨0, 100⟩ ∧ t.cbl.test = none ∧
          ∀ q, s.mea.cbl = .waiting q → t.mea.cbl = .empty) ∧
        ((∃ w, s.cbl.test = some w ∧ w.circuit = c) → (∀ d m, s.cbl.pos ≠ .on d m) →
          t.cbl.cable = s.cbl.cable.set c { x with
            suspended := true, overdue := false, abandons := min (x.abandons + 1) 255 } ∧
          t.cbl.pos = s.cbl.pos ∧ (∀ w, t.cbl.test = some w → w.circuit ≠ c) ∧
          ∀ q, s.mea.cbl = .waiting q → q.channel ∈ [.voltage c, .loop c, .leak c] → t.mea.cbl ≠ .waiting q) ∧
        Posted [(.cableState, false, .circuit c, shows .suspended)] s t)) ∧
    (takes s 0x2C tag [number c] = true → ∃ t, exec (.cableResume tag [number c]) s = .next t ∧
      (x.suspended = false → Replied s 0xAC tag .ok s t) ∧
      (x.suspended = true → Answered s 0xAC tag .ok t ∧ t.jds = s.jds ∧ t.osw = s.osw ∧ t.flt = s.flt ∧
        t.cbl.cable = s.cbl.cable.set c { x with
          suspended := false
          overdue := x.overdue || decide past } ∧
        ∃ l : List Byte, l.length = 5 ∧ (x.lastTest = none → l.head? = some 0) ∧
          (∀ y, x.lastTest = some y → l = 1 :: be32 y.recorded.toNat) ∧
          Posted ((.cableState, false, .circuit c, shows (cableState t c)) ::
            if x.overdue = false ∧ past then [(.testOverdue, false, .circuit c, b8 x.abandons :: l)] else []) s t))) ∧
  (∀ (tag b : Byte) (s : State), (∀ c, b = number c → s.jds.fitted c = false) →
    (takes s 0x2A tag [b] = true →
      ∃ t, exec (.cableTestNow tag [b]) s = .next t ∧ Replied s 0xAA tag (.badField 1) s t) ∧
    (takes s 0x2B tag [b] = true →
      ∃ t, exec (.cableSuspend tag [b]) s = .next t ∧ Replied s 0xAB tag (.badField 1) s t) ∧
    (takes s 0x2C tag [b] = true →
      ∃ t, exec (.cableResume tag [b]) s = .next t ∧ Replied s 0xAC tag (.badField 1) s t))

/-- CABLE_ELIGIBILITY_TIME, CABLE_PERIOD_ELAPSED (R150, R151): with no test in flight a test starts on an eligible
circuit: the lowest with retest due, else the lowest UNTESTED, else, among those due by period, the one with the oldest
last completed test, the lowest of equals; its open voltage is asked for at once where the CBL slot is EMPTY (R152),
and else once it is (log 29). Which circuits are eligible is R150's. R159, R160: a test in flight whose
circuit is in the pending switch-on set, is entering, or has a relay that is not OPEN, is abandoned, and no other is. A
relay with no time of last proven change counts as OPEN for the 500 ms (log 14, the model's). INJECTOR_LOAD_SETTLE,
INJECTOR_TEST_SETTLE (R152, R153): after the settle time the test asks for the loaded voltage, or for the loop with the
loop check on, or for the leak with it off. CONVERSION_COMPLETE (R152 to R154): the open voltage leads to the loaded
step or to the injection, the loaded voltage to the injection, the loop to the leak; a result that no test awaits, or
with another switch count, is discarded. -/
def Obligations.CableTestsStartAndGoOn : Prop :=
  (∀ (c : Circuit) (s : State), testEligible s c = true ↔
    s.jds.fitted c = true ∧ (s.cbl.cable.get c).suspended = false ∧ relayState s c = .open ∧
    (∀ x, (relayAt s c).coil.lastChange = some x → 500 ≤ x.elapsed) ∧ s.seq.switchOn.get c = false ∧
    (relayAt s c).entering = false ∧ s.cbl.pos = .free) ∧
  (∀ (w : Test) (s : State), s.cbl.test = some w →
    let drawn := s.seq.switchOn.get w.circuit = true ∨ (relayAt s w.circuit).entering = true ∨
      relayState s w.circuit ≠ .open
    (drawn → Abandoned s w (cblWatch s)) ∧ (¬drawn → cblWatch s = s)) ∧
  (∀ (c d : Circuit) (i : Instr) (s : State), s.jds.fitted c = true → s.flt.inbox = [] → s.cbl.test = none →
     ((i = .cableEligibilityTime c ∧ relayState s c = .open ∧
         ∀ x, (relayAt s c).coil.lastChange = some x → 500 ≤ x.elapsed) ∨
       (i = .cablePeriodElapsed c ∧ ∃ x, (s.cbl.cable.get c).lastTest = some x ∧
         (s.jds.circuit.get c).testPeriod * 60000 ≤ x.elapsed)) →
     testEligible s d = true →
     ((s.cbl.cable.get d).retestDue = true ∧
         (∀ e, e < d → testEligible s e = true → (s.cbl.cable.get e).retestDue = false)) ∨
       ((∀ e, testEligible s e = true → (s.cbl.cable.get e).retestDue = false) ∧
         (s.cbl.cable.get d).lastTest = none ∧
         (∀ e, e < d → testEligible s e = true → (s.cbl.cable.get e).lastTest ≠ none)) ∨
       ((∀ e, testEligible s e = true →
           (s.cbl.cable.get e).retestDue = false ∧ (s.cbl.cable.get e).lastTest ≠ none) ∧
         ∃ x, (s.cbl.cable.get d).lastTest = some x ∧ (s.jds.circuit.get d).testPeriod * 60000 ≤ x.elapsed ∧
           ∀ e y, testEligible s e = true → (s.cbl.cable.get e).lastTest = some y →
             (s.jds.circuit.get e).testPeriod * 60000 ≤ y.elapsed →
             y.elapsed < x.elapsed ∨ (y.elapsed = x.elapsed ∧ d ≤ e)) →
     ∃ t x, exec i s = .next t ∧ t.cbl.test = some x ∧ x = { circuit := d, placed := x.placed } ∧
       (s.mea.cbl = .empty → x.placed = true ∧ (t.mea.cbl = .waiting ⟨.voltage d, countOf s d, false⟩ ∨
         t.mea.cbl = .converting ⟨.voltage d, countOf s d, false⟩)) ∧
       (s.mea.cbl ≠ .empty → x.placed = false) ∧ t.cbl.pos = s.cbl.pos ∧
       t.cbl.cable = s.cbl.cable ∧ t.jds = s.jds ∧ t.osw = s.osw ∧ t.flt = s.flt) ∧
  (∀ (w : Test) (x : Timer) (s : State), s.cbl.test = some w → w.settle = some x → x.limit ≤ x.ms →
    s.flt.inbox = [] → s.mea.cbl = .empty →
    let r := s.jds.circuit.get w.circuit
    let loops := r.loopCheck = .on ∨ (r.loopCheck = .byTechnology ∧ r.technology = .filament)
    let asks := fun (i : Instr) (step : TestStep) (ch : Channel) =>
      ∃ t, exec i s = .next t ∧ t.cbl.test = some { w with step := step, placed := true, settle := none } ∧
        (t.mea.cbl = .waiting ⟨ch, countOf s w.circuit, false⟩ ∨
          t.mea.cbl = .converting ⟨ch, countOf s w.circuit, false⟩) ∧
        t.cbl.cable = s.cbl.cable ∧ t.cbl.pos = s.cbl.pos ∧ t.jds = s.jds ∧ t.osw = s.osw ∧ t.flt = s.flt
    (w.step = .loadSettle → asks .injectorLoadSettle .loadedV (.voltage w.circuit)) ∧
    (w.step = .testSettle → loops → asks .injectorTestSettle .loop (.loop w.circuit)) ∧
    (w.step = .testSettle → ¬loops → asks .injectorTestSettle .leak (.leak w.circuit))) ∧
  ∀ (v : Conv) (q : Req) (input : Int) (s : State), s.mea.conv = some v → v.window ≤ v.elapsed →
    s.mea.slot v.slot = .converting q → (∃ c, q.channel = .voltage c ∨ q.channel = .loop c ∨ q.channel = .leak c) →
    s.flt.inbox = [] →
    let r := min input.toNat 4095
    let kept := fun t : State => t.cbl.cable = s.cbl.cable ∧ t.jds = s.jds ∧ t.osw = s.osw ∧ t.seq = s.seq ∧ t.flt = s.flt
    ((∀ w, s.cbl.test = some w → w.placed = false ∨ w.channel ≠ some q.channel ∨ q.count ≠ countOf s w.circuit) →
      ∃ t, exec (.conversionComplete input) s = .next t ∧ kept t ∧ t.cbl.pos = s.cbl.pos ∧
        ∀ w, s.cbl.test = some w → ∃ b, t.cbl.test = some { w with placed := b }) ∧
    ∀ w, s.cbl.test = some w → w.placed = true → q.count = countOf s w.circuit →
      let goes := fun (x : Test) (m : InjMode) =>
        ∃ t, exec (.conversionComplete input) s = .next t ∧ kept t ∧ t.cbl.test = some x ∧ t.cbl.pos = .on w.circuit m
      (w.step = .openV → q.channel = .voltage w.circuit →
        (r ≤ s.jds.timing.foreignOpen →
          goes { w with step := .testSettle, placed := false, vo := r, settle := some ⟨0, 50⟩ } .test) ∧
        (s.jds.timing.foreignOpen < r →
          goes { w with step := .loadSettle, placed := false, vo := r, settle := some ⟨0, 20⟩ } .load)) ∧
      (w.step = .loadedV → q.channel = .voltage w.circuit →
        goes { w with step := .testSettle, placed := false, vl := some r, settle := some ⟨0, 50⟩ } .test) ∧
      (w.step = .loop → q.channel = .loop w.circuit → v.slot = .cbl →
        ∃ t, exec (.conversionComplete input) s = .next t ∧ kept t ∧ t.cbl.pos = s.cbl.pos ∧
          t.cbl.test = some { w with step := .leak, placed := true, loop := some r } ∧
          (t.mea.cbl = .waiting ⟨.leak w.circuit, countOf s w.circuit, false⟩ ∨
            t.mea.cbl = .converting ⟨.leak w.circuit, countOf s w.circuit, false⟩))

/-- CONVERSION_COMPLETE of the LEAK reading (R153, R155 to R158): the test is complete: the results recorded, the
induced flag, the runs and confirmed fields of all four causes moved, the baseline learned where the test may teach it,
the completion time now, overdue clear, retest-due clear unless the cable state is then SUSPECT, the release commanded
with its limit of 100 ms (R148); FLT hears the changes of the four confirmed indications in the order OPEN, SHORT,
INSULATION, FOREIGN, and takes them; then a changed cable state is reported. -/
def Obligations.LeakReadingCompletesTest : Prop :=
  ∀ (v : Conv) (q : Req) (w : Test) (m : InjMode) (input : Int) (s : State), s.mea.conv = some v →
    v.window ≤ v.elapsed → s.mea.slot v.slot = .converting q → s.cbl.test = some w → w.step = .leak →
    w.placed = true → q.channel = .leak w.circuit → q.count = countOf s w.circuit → s.cbl.pos = .on w.circuit m →
    let r := min input.toNat 4095
    let tm := s.jds.timing
    let x := s.cbl.cable.get w.circuit
    let b := x.baseline
    let j := Subject.circuit w.circuit
    let foreign := tm.foreignOpen < w.vo ∧ ∃ l, w.vl = some l ∧ tm.foreignLoaded < l
    let insulation := (s.jds.circuit.get w.circuit).leakLimit < r
    let teaches := fun l => w.loop = some l ∧ b = 0 ∧ 1 ≤ l ∧ l ≤ 4094 ∧ ¬foreign ∧ ¬insulation
    ∃ t, exec (.conversionComplete input) s = .next t ∧
      let y := t.cbl.cable.get w.circuit
      y.openV = some w.vo ∧ y.loadedV = w.vl ∧ y.loop = w.loop ∧ y.leak = some r ∧
      y.lastTest = some ⟨s.uptime, 0⟩ ∧ y.dueFrom = ⟨s.uptime, 0⟩ ∧ y.overdue = false ∧
      (y.retestDue = true ↔ cableState t w.circuit = .suspect) ∧
      t.cbl.pos = .releasing w.circuit m true ∧ t.cbl.release = some ⟨0, 100⟩ ∧
      RunMoves (∃ l, w.loop = some l ∧ (l = 4095 ∨ (0 < b ∧ 4 * b < l))) x.openRun y.openRun ∧
      RunMoves (∃ l, w.loop = some l ∧ (l = 0 ∨ (0 < b ∧ 4 * l < b))) x.shortRun y.shortRun ∧
      RunMoves insulation x.insulationRun y.insulationRun ∧ RunMoves foreign x.foreignRun y.foreignRun ∧
      (y.induced = true ↔ tm.foreignOpen < w.vo ∧ ∃ l, w.vl = some l ∧ l ≤ tm.foreignLoaded) ∧
      (∀ l, teaches l → y.baseline = l) ∧ ((∀ l, ¬teaches l) → y.baseline = b) ∧
      y.suspended = x.suspended ∧ t.jds = s.jds ∧
      (s.jds.fitted w.circuit = true → (cableState t w.circuit = .suspect ↔ y.suspended = false ∧
        (∀ z ∈ [y.openRun, y.shortRun, y.insulationRun, y.foreignRun], z.confirmed = false) ∧
        ∃ z ∈ [y.openRun, y.shortRun, y.insulationRun, y.foreignRun], z.fail = 1)) ∧
      ∃ u p, t = finish (afterDelivery v p) ∧
        u.flt = { s.flt with
          inbox := s.flt.inbox ++
            edge x.openRun.confirmed y.openRun.confirmed (.raise .cableOpen j 0xFF) (.clear .cableOpen j) ++
            edge x.shortRun.confirmed y.shortRun.confirmed (.raise .cableShort j 0xFF) (.clear .cableShort j) ++
            edge x.insulationRun.confirmed y.insulationRun.confirmed
              (.raise .cableInsulation j 0xFF) (.clear .cableInsulation j) ++
            edge x.foreignRun.confirmed y.foreignRun.confirmed
              (.raise .foreignVoltage j 0xFF) (.clear .foreignVoltage j) } ∧
        u.jds = s.jds ∧ u.seq = s.seq ∧ u.osw = s.osw ∧ u.lnk = s.lnk ∧
        let r := drain eventFuel u
        p.flt = r.flt ∧ p.seq = r.seq ∧ p.osw = r.osw ∧
        p.lnk = if cableState t w.circuit = cableState s w.circuit then r.lnk else
          (post .cableState false (.circuit w.circuit)
            [position [.untested, .healthy, .suspect, .faulty, .suspended] (cableState t w.circuit),
              packByte [y.openRun.confirmed, y.shortRun.confirmed, y.insulationRun.confirmed, y.foreignRun.confirmed],
              flagByte y.induced] r).lnk

/-- INJECTOR_CLEAR, INJECTOR_STUCK (R148, R149), TEST_OVERDUE (R162): the injector is FREE and OSW judges again; an
entering circuit stays off for now where a command waits at this moment that may make it not wanted (R102, third pair:
with the newer command taken it stays off, `Obligations.RelayCommandsMoveRelays`, and otherwise it is judged at the
moment's end, `Obligations.IdleStepIsOneMillisecond`; what counts as the moment and as such a command is the model's
choice, log 47); a test's release within its limit ends the stuck condition; the release timer at its limit raises
INJECTOR-STUCK with the position kept; the overdue flag with its report, the abandon count and the time of the last
completed test (behind a presence byte of 0 free: log 22). -/
def Obligations.InjectorAndOverdue : Prop :=
  (∀ (c : Circuit) (m : InjMode) (afterTest : Bool) (s : State), s.cbl.pos = .releasing c m afterTest →
    ∃ u, exec .injectorClear s = .next (conclude (oswAfter u)) ∧ u.cbl.pos = .free ∧ u.cbl.release = none ∧
      u.cbl.test = s.cbl.test ∧ u.cbl.cable = s.cbl.cable ∧ (relayAt u c).releaseAsked = false ∧
      (relayAt u c).entering = (relayAt s c).entering ∧ (relayAt u c).coil = (relayAt s c).coil ∧
      (∀ e, e ≠ c → relayAt u e = relayAt s e) ∧ u.jds = s.jds ∧ u.seq = s.seq ∧
      (let waits := (relayAt s c).entering = true ∧
          (∃ i ∈ s.pending, i = .timetableEntryDue ∨ ∃ n, i = .conversionComplete n)
       u.osw = { s.osw with relay := u.osw.relay, freed := u.osw.freed } ∧
       (waits → u.osw.freed = some c ∧
          ((relayAt s c).coil.commanded = false → (relayAt (oswAfter u) c).coil.commanded = false)) ∧
       (¬waits → u.osw.freed = none)) ∧
      (if s.cbl.stuck = true ∧ afterTest = true ∧ s.cbl.release ≠ none then
        u.cbl.stuck = false ∧ u.flt = { s.flt with inbox := s.flt.inbox ++ [.clear .injectorStuck .none] }
      else u.cbl.stuck = s.cbl.stuck ∧ u.flt = s.flt)) ∧
  (∀ (c : Circuit) (m : InjMode) (afterTest : Bool) (x : Timer) (s : State), s.cbl.pos = .releasing c m afterTest →
    s.cbl.release = some x → x.limit ≤ x.ms →
    exec .injectorStuck s = .next (conclude { s with
      cbl := { s.cbl with release := none, stuck := true }
      flt := { s.flt with inbox := s.flt.inbox ++ [.raise .injectorStuck .none 0xFF] } })) ∧
  (∀ (c : Circuit) (s : State), s.jds.fitted c = true → (s.cbl.cable.get c).suspended = false →
    (s.cbl.cable.get c).overdue = false →
    2 * ((s.jds.circuit.get c).testPeriod * 60000) ≤ (s.cbl.cable.get c).dueFrom.elapsed →
    ∃ t, exec (.testOverdue c) s = .next t ∧
      t = { s with
        cbl := { s.cbl with cable := s.cbl.cable.set c { s.cbl.cable.get c with overdue := true } }
        lnk := { s.lnk with reports := t.lnk.reports, lost := t.lnk.lost, tx := t.lnk.tx } } ∧
      ∃ l, Posted [(.testOverdue, false, .circuit c, b8 (s.cbl.cable.get c).abandons :: l)] s t ∧ l.length = 5 ∧
        ((s.cbl.cable.get c).lastTest = none → l.head? = some 0) ∧
        ∀ x, (s.cbl.cable.get c).lastTest = some x → l = 1 :: be32 x.recorded.toNat)

/-! ### Faults (R174 to R183) -/

/-- FAULT_CLEAR, FAULT_CLEAR_ALL (R182, R178, R206): an unknown kind, a subject out of the range of its kind, and with
all a subject other than 0 are refused with BAD-FIELD naming the byte; an entry that is CLEARED is removed, an ACTIVE
or PENDING-RETEST one is refused with STILL-ACTIVE, a missing one with BAD-FIELD (its detail item is free, log 40); all
removes every CLEARED entry; the order of the rest stays, and the overflow is cleared. Where it was set, auto restart
is judged on what is left (R170, R178), and where its conditions hold the change to START-UP is made with cause
AUTO-RESTART. -/
def Obligations.FaultClearTable : Prop :=
  let left := fun (s : State) (keep : FEntry → Bool) =>
    let l := s.flt.list.filter keep
    { s with flt := { s.flt with list := l, overflow := false, output := l.any fun e => decide (e.state = .active) } }
  let taken := fun (s t : State) (tag : Byte) (keep : FEntry → Bool) =>
    (s.flt.overflow = false ∨ autoRestartNow (left s keep) = false →
      t.flt.overflow = false ∧ t.flt.mode = s.flt.mode ∧ t.osw = s.osw ∧ t.seq = s.seq ∧
      t.flt.list = s.flt.list.filter keep) ∧
    (s.flt.overflow = true → autoRestartNow (left s keep) = true →
      Replied s 0xB1 tag .ok (settle (startUp .autoRestart (left (takeRequest s) keep))) t)
  (∀ (tag : Byte) (k : FaultKind) (n : Byte) (j : Subject) (s : State),
    takes s 0x31 tag [b8 k.code, n] = true → subject? k n.toNat = some j → s.flt.inbox = [] →
    ∃ t, exec (.faultClear tag [b8 k.code, n]) s = .next t ∧
      ((∀ e ∈ s.flt.list, ¬(e.kind = k ∧ e.subject = j)) →
        ∃ item, Replied s 0xB1 tag (.refused .badField item 0 0) s t) ∧
      (∀ e, s.flt.list.find? (FEntry.is k j) = some e → e.state ≠ .cleared →
        Replied s 0xB1 tag (.no .stillActive) s t) ∧
      (∀ e, s.flt.list.find? (FEntry.is k j) = some e → e.state = .cleared →
        Answered s 0xB1 tag .ok t ∧ t.jds = s.jds ∧
        taken s t tag fun x => !decide (x.kind = k ∧ x.subject = j))) ∧
  (∀ (k : FaultKind) (n : Nat) (j : Subject),
    let groups := [FaultKind.conflict, .redOut, .redProofTimeout]
    let detectors := [FaultKind.detectorStuckOn, .detectorSilent, .detectorChatter]
    let none' := [FaultKind.contactorFailClosed, .contactorFailOpen, .signalsOff, .injectorStuck, .measurementFault,
      .supplyLoss]
    subject? k n = some j ↔ (k ∈ groups ∧ ∃ g : Group, j = .group g ∧ n = g.val + 1) ∨
      (k ∈ detectors ∧ ∃ d : Detector, j = .detector d ∧ n = d.val + 1) ∨ (k ∈ none' ∧ j = .none ∧ n = 0) ∨
      (k ∉ groups ++ detectors ++ none' ∧ ∃ c : Circuit, j = .circuit c ∧ n = c.val + 1)) ∧
  (∀ (tag : Byte) (k : FaultKind) (n : Byte) (s : State), takes s 0x31 tag [b8 k.code, n] = true →
    subject? k n.toNat = none →
    ∃ t, exec (.faultClear tag [b8 k.code, n]) s = .next t ∧ Replied s 0xB1 tag (.badField 2) s t) ∧
  (∀ (tag n : Byte) (s : State), takes s 0x31 tag [0, n] = true → n ≠ 0 →
    ∃ t, exec (.faultClearAll tag [0, n]) s = .next t ∧ Replied s 0xB1 tag (.badField 2) s t) ∧
  (∀ (tag a b : Byte) (s : State), takes s 0x31 tag [a, b] = true → 22 < a.toNat →
    ∃ t, exec (.faultClear tag [a, b]) s = .next t ∧ Replied s 0xB1 tag (.badField 1) s t) ∧
  (∀ (tag : Byte) (s : State), takes s 0x31 tag [0, 0] = true → s.flt.inbox = [] →
    ∃ t, exec (.faultClearAll tag [0, 0]) s = .next t ∧ Answered s 0xB1 tag .ok t ∧ t.jds = s.jds ∧
      taken s t tag fun x => decide (x.state ≠ .cleared))

/-- R174: the response of a fault: that of the RESPONSE record of its kind and colour, else REPORT for the detector
kinds and DARK for the others; a RELAY-FAIL-CLOSED of an amber circuit is answered DARK in START-UP and REDS-FIRST.
R175, R177, R178: a raise FLT takes: the entry found is ACTIVE again with one more occurrence, up to 255, and the
present uptime, in its place; otherwise a new ACTIVE entry at the end, in a full list at the cost of the oldest CLEARED
one, and with none CLEARED the overflow; then the FAULT-RAISED report, with the kind, the occurrences, the mode that
follows and the detail; then the response is applied to the mode as it stands. R170, R179: a clear FLT takes: an ACTIVE
entry is CLEARED and auto restart judged (by the four conditions of R170), a PENDING-RETEST one is CLEARED, each with a
FAULT-CLEARED report that says it was listed; a CLEARED one stays, and a missing one is reported as not listed; a clear
itself does not move the mode. R181: a passed retest clears the entry of its kind and subject that is PENDING-RETEST,
and a passed RED-OUT the group's RED-PROOF-TIMEOUT with it, its report next (log 66, the model's choice). -/
def Obligations.FaultsAreListedAndAnswered : Prop :=
  let clearedReport := fun (k : FaultKind) (j : Subject) (listed : Byte) (s : State) =>
    post .faultCleared false (reportSubject j) [b8 k.code, listed] s
  (∀ s : State, autoRestartNow s = true ↔
    s.flt.mode = .dark ∧ s.flt.restartPermitted = true ∧
    (s.flt.darkCause = .fault .signalsOff ∨ s.flt.darkCause = .fault .supplyLoss) ∧
    (∀ e ∈ s.flt.list, e.state = .active → responseOf s e.kind e.subject ≠ .dark ∧
      ∀ c, e.kind = .relayFailClosed → e.subject = .circuit c → aspectOf c ≠ .amber) ∧
    s.flt.overflow = false ∧ ∃ p, (planAt s p).state = .valid) ∧
  (∀ (k : FaultKind) (j : Subject) (s : State),
     let colour : Colour := match j with
       | .circuit c => if k ∈ [FaultKind.relayFailClosed, .relayFailOpen, .onWhenOff, .foreignVoltage] then
           match aspectOf c with | .red => .red | .amber => .amber | .green => .green
         else .any
       | _ => .any
     (∀ i, responsePairs.get i = (k, colour) → responseOf s k j = s.jds.response.get i) ∧
     ((∀ i, responsePairs.get i ≠ (k, colour)) → responseOf s k j =
       if k ∈ [FaultKind.detectorStuckOn, .detectorSilent, .detectorChatter] then .report else .dark) ∧
     responseAtRaise s k j =
       if k = .relayFailClosed ∧ (∃ c, j = .circuit c ∧ aspectOf c = .amber) ∧
         (s.flt.mode = .startUp ∨ s.osw.phase = .redsFirst) then .dark else responseOf s k j) ∧
  (∀ (k : FaultKind) (j : Subject) (d : Byte) (s : State),
     let r := (record k j s).2
     let new : FEntry := ⟨k, j, .active, s.uptime, s.uptime, 1⟩
     let u := takeRaise k j d s
     let resp := responseAtRaise s k j
     let none' := ¬∃ e ∈ s.flt.list, e.kind = k ∧ e.subject = j
     ((∃ e ∈ s.flt.list, e.kind = k ∧ e.subject = j) →
       (∀ (i : Nat) (e : FEntry), s.flt.list[i]? = some e → ∃ e' : FEntry, r.flt.list[i]? = some e' ∧
         (¬(e.kind = k ∧ e.subject = j) → e' = e) ∧
         (e.kind = k ∧ e.subject = j → e' = { e with
           state := .active, last := s.uptime, occurrences := min (e.occurrences + 1) 255 })) ∧
       r.flt.list.length = s.flt.list.length) ∧
     (none' → s.flt.list.length < 32 → r.flt.list = s.flt.list ++ [new]) ∧
     (none' → 32 ≤ s.flt.list.length →
       ∀ a e b, s.flt.list = a ++ e :: b → e.state = .cleared → (∀ x ∈ a, x.state ≠ .cleared) →
         r.flt.list = a ++ b ++ [new]) ∧
     (none' → 32 ≤ s.flt.list.length →
       (∀ e ∈ s.flt.list, e.state ≠ .cleared) → r.flt.list = s.flt.list ∧ r.flt.overflow = true) ∧
     (∃ n, (∀ e, s.flt.list.find? (FEntry.is k j) = some e → n = min (e.occurrences + 1) 255) ∧
       (none' → n = if s.flt.list.length < 32 ∨ ∃ e ∈ s.flt.list, e.state = .cleared then 1 else 0) ∧
       let p := post .faultRaised true (reportSubject j)
         [b8 k.code, b8 n, position [.unconfigured, .dark, .startUp, .run, .hold, .allRed] u.flt.mode, d] r
       (u.flt.mode = s.flt.mode → u.lnk = p.lnk ∧ u.seq = s.seq ∧ u.osw = s.osw) ∧
       (u.flt.mode = .allRed → s.flt.mode ≠ .allRed → u = changeMode .allRed (.fault k j) p) ∧
       (u.flt.mode = .dark → s.flt.mode ≠ .dark → u = enterDark (.fault k) (.fault k j) p)) ∧
     u.flt.mode = (match resp, s.flt.mode with
       | .allRed, .startUp | .allRed, .run | .allRed, .hold => .allRed
       | .dark, .startUp | .dark, .run | .dark, .hold | .dark, .allRed => .dark
       | _, m => m) ∧
     (resp = .dark → s.flt.mode ≠ .unconfigured → u.flt.darkCause = .fault k) ∧
     (resp ≠ .dark → u.flt.darkCause = s.flt.darkCause ∧ u.flt.list = r.flt.list)) ∧
  (∀ (k : FaultKind) (j : Subject) (s : State),
    let u := takeClear k j s
    let cleared := { s with flt := { s.flt with
      list := s.flt.list.map fun e => if e.kind = k ∧ e.subject = j then { e with state := .cleared } else e } }
    ((∀ e ∈ s.flt.list, e.kind = k → e.subject = j → e.state = .cleared) →
      u.flt = s.flt ∧ u.seq = s.seq ∧ u.osw = s.osw ∧ u.jds = s.jds) ∧
    ((∀ e ∈ s.flt.list, ¬(e.kind = k ∧ e.subject = j)) → u = clearedReport k j 0 s) ∧
    (∀ e, s.flt.list.find? (FEntry.is k j) = some e → e.state = .cleared → u = s) ∧
    (∀ e, s.flt.list.find? (FEntry.is k j) = some e → e.state = .pendingRetest ∨
        (e.state = .active ∧ autoRestartNow cleared = false) →
      u.flt.list = cleared.flt.list ∧ u.flt.mode = s.flt.mode ∧ u.flt.darkCause = s.flt.darkCause ∧
      u.seq = s.seq ∧ u.osw = s.osw ∧ u.jds = s.jds ∧ u.lnk = (clearedReport k j 1 s).lnk) ∧
    (∀ e, s.flt.list.find? (FEntry.is k j) = some e → e.state = .active → autoRestartNow cleared = true →
      (u.flt.mode = .startUp ∨ u.flt.mode = .allRed) ∧
      ∃ w, u = startUp .autoRestart w ∧ w.flt.list = cleared.flt.list ∧ w.lnk = (clearedReport k j 1 s).lnk)) ∧
  ∀ (k : FaultKind) (j : Subject) (s : State),
    let u := takePassed k j s
    let passes := fun x : FaultKind => x = k ∨ (k = .redOut ∧ x = .redProofTimeout)
    let pending := fun x : FaultKind =>
      (s.flt.list.find? (FEntry.is x j)).any (fun e => e.state = .pendingRetest) = true
    u.flt.list = s.flt.list.map (fun e =>
      if e.subject = j ∧ passes e.kind ∧ pending e.kind then { e with state := .cleared } else e) ∧
    u.flt.mode = s.flt.mode ∧ u.seq = s.seq ∧ u.osw = s.osw ∧ u.jds = s.jds ∧
    let first := if pending k then clearedReport k j 1 s else s
    u.lnk = (if k = .redOut ∧ pending .redProofTimeout then clearedReport .redProofTimeout j 1 first else first).lnk

end
end

