-- ==== Sys2Proof/Laws/State.lean ====
section
/-! SUPPORT. One lemma per field per block update, true by `rfl`, so that no proof unfolds a record update; and what
two updates of one block make. -/

namespace Sys2Proof.Machine

variable (s : State)

@[simp] theorem State.onJds_jds (f : Jds → Jds) : (s.onJds f).jds = f s.jds := rfl
@[simp] theorem State.onJds_uptime (f : Jds → Jds) : (s.onJds f).uptime = s.uptime := rfl
@[simp] theorem State.onJds_seq (f : Jds → Jds) : (s.onJds f).seq = s.seq := rfl
@[simp] theorem State.onJds_plans (f : Jds → Jds) : (s.onJds f).plans = s.plans := rfl
@[simp] theorem State.onJds_det (f : Jds → Jds) : (s.onJds f).det = s.det := rfl
@[simp] theorem State.onJds_osw (f : Jds → Jds) : (s.onJds f).osw = s.osw := rfl
@[simp] theorem State.onJds_mea (f : Jds → Jds) : (s.onJds f).mea = s.mea := rfl
@[simp] theorem State.onJds_lmp (f : Jds → Jds) : (s.onJds f).lmp = s.lmp := rfl
@[simp] theorem State.onJds_cbl (f : Jds → Jds) : (s.onJds f).cbl = s.cbl := rfl
@[simp] theorem State.onJds_flt (f : Jds → Jds) : (s.onJds f).flt = s.flt := rfl
@[simp] theorem State.onJds_lnk (f : Jds → Jds) : (s.onJds f).lnk = s.lnk := rfl
@[simp] theorem State.onJds_pending (f : Jds → Jds) : (s.onJds f).pending = s.pending := rfl
@[simp] theorem State.onJds_onJds (f g : Jds → Jds) : (s.onJds f).onJds g = s.onJds fun x => g (f x) := rfl

@[simp] theorem State.onSeq_seq (f : Seq → Seq) : (s.onSeq f).seq = f s.seq := rfl
@[simp] theorem State.onSeq_uptime (f : Seq → Seq) : (s.onSeq f).uptime = s.uptime := rfl
@[simp] theorem State.onSeq_jds (f : Seq → Seq) : (s.onSeq f).jds = s.jds := rfl
@[simp] theorem State.onSeq_plans (f : Seq → Seq) : (s.onSeq f).plans = s.plans := rfl
@[simp] theorem State.onSeq_det (f : Seq → Seq) : (s.onSeq f).det = s.det := rfl
@[simp] theorem State.onSeq_osw (f : Seq → Seq) : (s.onSeq f).osw = s.osw := rfl
@[simp] theorem State.onSeq_mea (f : Seq → Seq) : (s.onSeq f).mea = s.mea := rfl
@[simp] theorem State.onSeq_lmp (f : Seq → Seq) : (s.onSeq f).lmp = s.lmp := rfl
@[simp] theorem State.onSeq_cbl (f : Seq → Seq) : (s.onSeq f).cbl = s.cbl := rfl
@[simp] theorem State.onSeq_flt (f : Seq → Seq) : (s.onSeq f).flt = s.flt := rfl
@[simp] theorem State.onSeq_lnk (f : Seq → Seq) : (s.onSeq f).lnk = s.lnk := rfl
@[simp] theorem State.onSeq_pending (f : Seq → Seq) : (s.onSeq f).pending = s.pending := rfl
@[simp] theorem State.onSeq_onSeq (f g : Seq → Seq) : (s.onSeq f).onSeq g = s.onSeq fun x => g (f x) := rfl

@[simp] theorem State.onPlans_plans (f : Plans → Plans) : (s.onPlans f).plans = f s.plans := rfl
@[simp] theorem State.onPlans_uptime (f : Plans → Plans) : (s.onPlans f).uptime = s.uptime := rfl
@[simp] theorem State.onPlans_jds (f : Plans → Plans) : (s.onPlans f).jds = s.jds := rfl
@[simp] theorem State.onPlans_seq (f : Plans → Plans) : (s.onPlans f).seq = s.seq := rfl
@[simp] theorem State.onPlans_det (f : Plans → Plans) : (s.onPlans f).det = s.det := rfl
@[simp] theorem State.onPlans_osw (f : Plans → Plans) : (s.onPlans f).osw = s.osw := rfl
@[simp] theorem State.onPlans_mea (f : Plans → Plans) : (s.onPlans f).mea = s.mea := rfl
@[simp] theorem State.onPlans_lmp (f : Plans → Plans) : (s.onPlans f).lmp = s.lmp := rfl
@[simp] theorem State.onPlans_cbl (f : Plans → Plans) : (s.onPlans f).cbl = s.cbl := rfl
@[simp] theorem State.onPlans_flt (f : Plans → Plans) : (s.onPlans f).flt = s.flt := rfl
@[simp] theorem State.onPlans_lnk (f : Plans → Plans) : (s.onPlans f).lnk = s.lnk := rfl
@[simp] theorem State.onPlans_pending (f : Plans → Plans) : (s.onPlans f).pending = s.pending := rfl
@[simp] theorem State.onPlans_onPlans (f g : Plans → Plans) : (s.onPlans f).onPlans g = s.onPlans fun x => g (f x) := rfl

@[simp] theorem State.onDet_det (f : Det → Det) : (s.onDet f).det = f s.det := rfl
@[simp] theorem State.onDet_uptime (f : Det → Det) : (s.onDet f).uptime = s.uptime := rfl
@[simp] theorem State.onDet_jds (f : Det → Det) : (s.onDet f).jds = s.jds := rfl
@[simp] theorem State.onDet_seq (f : Det → Det) : (s.onDet f).seq = s.seq := rfl
@[simp] theorem State.onDet_plans (f : Det → Det) : (s.onDet f).plans = s.plans := rfl
@[simp] theorem State.onDet_osw (f : Det → Det) : (s.onDet f).osw = s.osw := rfl
@[simp] theorem State.onDet_mea (f : Det → Det) : (s.onDet f).mea = s.mea := rfl
@[simp] theorem State.onDet_lmp (f : Det → Det) : (s.onDet f).lmp = s.lmp := rfl
@[simp] theorem State.onDet_cbl (f : Det → Det) : (s.onDet f).cbl = s.cbl := rfl
@[simp] theorem State.onDet_flt (f : Det → Det) : (s.onDet f).flt = s.flt := rfl
@[simp] theorem State.onDet_lnk (f : Det → Det) : (s.onDet f).lnk = s.lnk := rfl
@[simp] theorem State.onDet_pending (f : Det → Det) : (s.onDet f).pending = s.pending := rfl
@[simp] theorem State.onDet_onDet (f g : Det → Det) : (s.onDet f).onDet g = s.onDet fun x => g (f x) := rfl

@[simp] theorem State.onOsw_osw (f : Osw → Osw) : (s.onOsw f).osw = f s.osw := rfl
@[simp] theorem State.onOsw_uptime (f : Osw → Osw) : (s.onOsw f).uptime = s.uptime := rfl
@[simp] theorem State.onOsw_jds (f : Osw → Osw) : (s.onOsw f).jds = s.jds := rfl
@[simp] theorem State.onOsw_seq (f : Osw → Osw) : (s.onOsw f).seq = s.seq := rfl
@[simp] theorem State.onOsw_plans (f : Osw → Osw) : (s.onOsw f).plans = s.plans := rfl
@[simp] theorem State.onOsw_det (f : Osw → Osw) : (s.onOsw f).det = s.det := rfl
@[simp] theorem State.onOsw_mea (f : Osw → Osw) : (s.onOsw f).mea = s.mea := rfl
@[simp] theorem State.onOsw_lmp (f : Osw → Osw) : (s.onOsw f).lmp = s.lmp := rfl
@[simp] theorem State.onOsw_cbl (f : Osw → Osw) : (s.onOsw f).cbl = s.cbl := rfl
@[simp] theorem State.onOsw_flt (f : Osw → Osw) : (s.onOsw f).flt = s.flt := rfl
@[simp] theorem State.onOsw_lnk (f : Osw → Osw) : (s.onOsw f).lnk = s.lnk := rfl
@[simp] theorem State.onOsw_pending (f : Osw → Osw) : (s.onOsw f).pending = s.pending := rfl
@[simp] theorem State.onOsw_onOsw (f g : Osw → Osw) : (s.onOsw f).onOsw g = s.onOsw fun x => g (f x) := rfl

@[simp] theorem State.onMea_mea (f : Mea → Mea) : (s.onMea f).mea = f s.mea := rfl
@[simp] theorem State.onMea_uptime (f : Mea → Mea) : (s.onMea f).uptime = s.uptime := rfl
@[simp] theorem State.onMea_jds (f : Mea → Mea) : (s.onMea f).jds = s.jds := rfl
@[simp] theorem State.onMea_seq (f : Mea → Mea) : (s.onMea f).seq = s.seq := rfl
@[simp] theorem State.onMea_plans (f : Mea → Mea) : (s.onMea f).plans = s.plans := rfl
@[simp] theorem State.onMea_det (f : Mea → Mea) : (s.onMea f).det = s.det := rfl
@[simp] theorem State.onMea_osw (f : Mea → Mea) : (s.onMea f).osw = s.osw := rfl
@[simp] theorem State.onMea_lmp (f : Mea → Mea) : (s.onMea f).lmp = s.lmp := rfl
@[simp] theorem State.onMea_cbl (f : Mea → Mea) : (s.onMea f).cbl = s.cbl := rfl
@[simp] theorem State.onMea_flt (f : Mea → Mea) : (s.onMea f).flt = s.flt := rfl
@[simp] theorem State.onMea_lnk (f : Mea → Mea) : (s.onMea f).lnk = s.lnk := rfl
@[simp] theorem State.onMea_pending (f : Mea → Mea) : (s.onMea f).pending = s.pending := rfl
@[simp] theorem State.onMea_onMea (f g : Mea → Mea) : (s.onMea f).onMea g = s.onMea fun x => g (f x) := rfl

@[simp] theorem State.onLmp_lmp (f : Lmp → Lmp) : (s.onLmp f).lmp = f s.lmp := rfl
@[simp] theorem State.onLmp_uptime (f : Lmp → Lmp) : (s.onLmp f).uptime = s.uptime := rfl
@[simp] theorem State.onLmp_jds (f : Lmp → Lmp) : (s.onLmp f).jds = s.jds := rfl
@[simp] theorem State.onLmp_seq (f : Lmp → Lmp) : (s.onLmp f).seq = s.seq := rfl
@[simp] theorem State.onLmp_plans (f : Lmp → Lmp) : (s.onLmp f).plans = s.plans := rfl
@[simp] theorem State.onLmp_det (f : Lmp → Lmp) : (s.onLmp f).det = s.det := rfl
@[simp] theorem State.onLmp_osw (f : Lmp → Lmp) : (s.onLmp f).osw = s.osw := rfl
@[simp] theorem State.onLmp_mea (f : Lmp → Lmp) : (s.onLmp f).mea = s.mea := rfl
@[simp] theorem State.onLmp_cbl (f : Lmp → Lmp) : (s.onLmp f).cbl = s.cbl := rfl
@[simp] theorem State.onLmp_flt (f : Lmp → Lmp) : (s.onLmp f).flt = s.flt := rfl
@[simp] theorem State.onLmp_lnk (f : Lmp → Lmp) : (s.onLmp f).lnk = s.lnk := rfl
@[simp] theorem State.onLmp_pending (f : Lmp → Lmp) : (s.onLmp f).pending = s.pending := rfl
@[simp] theorem State.onLmp_onLmp (f g : Lmp → Lmp) : (s.onLmp f).onLmp g = s.onLmp fun x => g (f x) := rfl

@[simp] theorem State.onCbl_cbl (f : Cbl → Cbl) : (s.onCbl f).cbl = f s.cbl := rfl
@[simp] theorem State.onCbl_uptime (f : Cbl → Cbl) : (s.onCbl f).uptime = s.uptime := rfl
@[simp] theorem State.onCbl_jds (f : Cbl → Cbl) : (s.onCbl f).jds = s.jds := rfl
@[simp] theorem State.onCbl_seq (f : Cbl → Cbl) : (s.onCbl f).seq = s.seq := rfl
@[simp] theorem State.onCbl_plans (f : Cbl → Cbl) : (s.onCbl f).plans = s.plans := rfl
@[simp] theorem State.onCbl_det (f : Cbl → Cbl) : (s.onCbl f).det = s.det := rfl
@[simp] theorem State.onCbl_osw (f : Cbl → Cbl) : (s.onCbl f).osw = s.osw := rfl
@[simp] theorem State.onCbl_mea (f : Cbl → Cbl) : (s.onCbl f).mea = s.mea := rfl
@[simp] theorem State.onCbl_lmp (f : Cbl → Cbl) : (s.onCbl f).lmp = s.lmp := rfl
@[simp] theorem State.onCbl_flt (f : Cbl → Cbl) : (s.onCbl f).flt = s.flt := rfl
@[simp] theorem State.onCbl_lnk (f : Cbl → Cbl) : (s.onCbl f).lnk = s.lnk := rfl
@[simp] theorem State.onCbl_pending (f : Cbl → Cbl) : (s.onCbl f).pending = s.pending := rfl
@[simp] theorem State.onCbl_onCbl (f g : Cbl → Cbl) : (s.onCbl f).onCbl g = s.onCbl fun x => g (f x) := rfl

@[simp] theorem State.onFlt_flt (f : Flt → Flt) : (s.onFlt f).flt = f s.flt := rfl
@[simp] theorem State.onFlt_uptime (f : Flt → Flt) : (s.onFlt f).uptime = s.uptime := rfl
@[simp] theorem State.onFlt_jds (f : Flt → Flt) : (s.onFlt f).jds = s.jds := rfl
@[simp] theorem State.onFlt_seq (f : Flt → Flt) : (s.onFlt f).seq = s.seq := rfl
@[simp] theorem State.onFlt_plans (f : Flt → Flt) : (s.onFlt f).plans = s.plans := rfl
@[simp] theorem State.onFlt_det (f : Flt → Flt) : (s.onFlt f).det = s.det := rfl
@[simp] theorem State.onFlt_osw (f : Flt → Flt) : (s.onFlt f).osw = s.osw := rfl
@[simp] theorem State.onFlt_mea (f : Flt → Flt) : (s.onFlt f).mea = s.mea := rfl
@[simp] theorem State.onFlt_lmp (f : Flt → Flt) : (s.onFlt f).lmp = s.lmp := rfl
@[simp] theorem State.onFlt_cbl (f : Flt → Flt) : (s.onFlt f).cbl = s.cbl := rfl
@[simp] theorem State.onFlt_lnk (f : Flt → Flt) : (s.onFlt f).lnk = s.lnk := rfl
@[simp] theorem State.onFlt_pending (f : Flt → Flt) : (s.onFlt f).pending = s.pending := rfl
@[simp] theorem State.onFlt_onFlt (f g : Flt → Flt) : (s.onFlt f).onFlt g = s.onFlt fun x => g (f x) := rfl

@[simp] theorem State.onLnk_lnk (f : Lnk → Lnk) : (s.onLnk f).lnk = f s.lnk := rfl
@[simp] theorem State.onLnk_uptime (f : Lnk → Lnk) : (s.onLnk f).uptime = s.uptime := rfl
@[simp] theorem State.onLnk_jds (f : Lnk → Lnk) : (s.onLnk f).jds = s.jds := rfl
@[simp] theorem State.onLnk_seq (f : Lnk → Lnk) : (s.onLnk f).seq = s.seq := rfl
@[simp] theorem State.onLnk_plans (f : Lnk → Lnk) : (s.onLnk f).plans = s.plans := rfl
@[simp] theorem State.onLnk_det (f : Lnk → Lnk) : (s.onLnk f).det = s.det := rfl
@[simp] theorem State.onLnk_osw (f : Lnk → Lnk) : (s.onLnk f).osw = s.osw := rfl
@[simp] theorem State.onLnk_mea (f : Lnk → Lnk) : (s.onLnk f).mea = s.mea := rfl
@[simp] theorem State.onLnk_lmp (f : Lnk → Lnk) : (s.onLnk f).lmp = s.lmp := rfl
@[simp] theorem State.onLnk_cbl (f : Lnk → Lnk) : (s.onLnk f).cbl = s.cbl := rfl
@[simp] theorem State.onLnk_flt (f : Lnk → Lnk) : (s.onLnk f).flt = s.flt := rfl
@[simp] theorem State.onLnk_pending (f : Lnk → Lnk) : (s.onLnk f).pending = s.pending := rfl
@[simp] theorem State.onLnk_onLnk (f g : Lnk → Lnk) : (s.onLnk f).onLnk g = s.onLnk fun x => g (f x) := rfl

@[simp] theorem State.stamp_recorded : s.stamp.recorded = s.uptime := rfl
@[simp] theorem State.stamp_elapsed : s.stamp.elapsed = 0 := rfl

@[simp] theorem Lnk.front_of_handling {l : Lnk} {f : Frame} (h : l.handling = some f) : l.front = some f := by
  simp [Lnk.front, h]

@[simp] theorem Lnk.front_of_idle {l : Lnk} (h : l.handling = none) : l.front = l.requests.head? := by
  simp [Lnk.front, h]

/-- R192, R196: what the handler takes leaves, whichever it is, and the rest of LNK stays. -/
theorem Lnk.taken_eq (l : Lnk) :
    l.taken = { l with
      handling := none, requests := if l.handling = none then l.requests.tail else l.requests } := by
  unfold Lnk.taken; cases h : l.handling <;> simp

@[simp] theorem Lnk.taken_handling (l : Lnk) : l.taken.handling = none := by rw [Lnk.taken_eq]
@[simp] theorem Lnk.taken_replies (l : Lnk) : l.taken.replies = l.replies := by rw [Lnk.taken_eq]
@[simp] theorem Lnk.taken_requests (l : Lnk) :
    l.taken.requests = if l.handling = none then l.requests.tail else l.requests := by rw [Lnk.taken_eq]

end Sys2Proof.Machine
end

