-- ==== Sys2Proof/Laws/Drives.lean ====
section
/-! SUPPORT. What the blocks below FLT can do, said once. `Drives s t` holds of every shared operation of Engine,
Switching, Plans and Sequencer: an invariant that its ten cases keep is kept by all of them, and no proof unfolds them
again. -/

namespace Sys2Proof.Machine

/-- What a change of the plans may touch here: the slot references and the last activated choice. -/
def Plans.Same (p q : Plans) : Prop :=
  q = { p with inForce := q.inForce, pendingPlan := q.pendingPlan, lastChoice := q.lastChoice }

/-- What a change of MEA may touch here: the slots, the conversion in flight, the alternation and the due flags. -/
def Mea.Same (m n : Mea) : Prop :=
  n = { m with
    proof := n.proof, routine := n.routine, cbl := n.cbl, diag := n.diag, conv := n.conv, lastCbl := n.lastCbl
    dueSupply := n.dueSupply, dueRef := n.dueRef, dueOffset := n.dueOffset }

/-- What a change of LMP may touch here: the pointers and the proof flags. -/
def Lmp.Same (l m : Lmp) : Prop := ∀ c, m.lamp.get c = { l.lamp.get c with proof := (m.lamp.get c).proof }

/-- What a change of CBL may touch here: the test, the injector's position and release, the abandon counts. -/
def Cbl.Same (x y : Cbl) : Prop :=
  y.stuck = x.stuck ∧ ∀ c, y.cable.get c = { x.cable.get c with abandons := (y.cable.get c).abandons }

/-- A path of elementary changes: any change of SEQ; a change of the plans, MEA, LMP or CBL within the bounds above; a
report posted; an event handed to FLT; a change of OSW that leaves every relay's coil section alone; a relay commanded
off; a relay commanded on, a green one only behind its interlock (R100). -/
inductive Drives : State → State → Prop
  | refl (s : State) : Drives s s
  | trans {s t u : State} : Drives s t → Drives t u → Drives s u
  | seq (s : State) (f : Seq → Seq) : Drives s (s.onSeq f)
  | plans (s : State) (f : Plans → Plans) (h : s.plans.Same (f s.plans)) : Drives s (s.onPlans f)
  | mea (s : State) (f : Mea → Mea) (h : s.mea.Same (f s.mea)) : Drives s (s.onMea f)
  | lmp (s : State) (f : Lmp → Lmp) (h : s.lmp.Same (f s.lmp)) : Drives s (s.onLmp f)
  | cbl (s : State) (f : Cbl → Cbl) (h : s.cbl.Same (f s.cbl)) : Drives s (s.onCbl f)
  | post (s : State) (k : ReportKind) (a : Bool) (j : RSubject) (l : List Byte) : Drives s (post k a j l s)
  | event (s : State) (e : FltEvent) : Drives s (toFlt e s)
  | osw (s : State) (f : Osw → Osw) (h : ∀ c, ((f s.osw).relay.get c).coil = (s.osw.relay.get c).coil) :
      Drives s (s.onOsw f)
  | off (s : State) (c : Circuit) :
      Drives s (onRelay c (fun r => { r with coil := (r.coil.command false s.stamp s.jds.timing).1 }) s)
  | on (s : State) (c : Circuit) (h : aspectOf c = .green → greenPermitted s c = true) :
      Drives s (onRelay c (fun r => { r with coil := (r.coil.command true s.stamp s.jds.timing).1 }) s)

namespace Drives

variable {s t u : State}

theorem seq' (h : Drives s t) (f : Seq → Seq) : Drives s (t.onSeq f) := h.trans (.seq t f)

theorem foldl {α : Type} (f : State → α → State) (hf : ∀ t a, Drives t (f t a)) (l : List α) (s : State) :
    Drives s (l.foldl f s) := by
  induction l generalizing s with
  | nil => exact .refl s
  | cons a l ih => exact (hf s a).trans (ih _)

theorem forEach {n : Nat} (f : Fin n → State → State) (hf : ∀ i t, Drives t (f i t)) (s : State) :
    Drives s (Machine.forEach f s) := foldl _ (fun t i => hf i t) _ s

theorem ite {p : Prop} [Decidable p] (ht : Drives s t) (hu : Drives s u) : Drives s (if p then t else u) := by
  split <;> assumption

/-- The readings, sections and plan contents that no driving changes. -/
theorem same (h : Drives s t) : s.plans.Same t.plans ∧ s.mea.Same t.mea ∧ s.lmp.Same t.lmp ∧ s.cbl.Same t.cbl := by
  induction h with
  | refl s => exact ⟨rfl, rfl, fun _ => rfl, rfl, fun _ => rfl⟩
  | trans h1 h2 ih1 ih2 =>
    obtain ⟨a, b, c, d, e⟩ := ih1
    obtain ⟨a', b', c', d', e'⟩ := ih2
    refine ⟨?_, ?_, fun i => ?_, d'.trans d, fun i => ?_⟩
    · unfold Plans.Same at *; rw [a']; rw [a]
    · unfold Mea.Same at *; rw [b']; rw [b]
    · rw [c' i]; rw [c i]
    · rw [e' i]; rw [e i]
  | plans s f h => exact ⟨h, rfl, fun _ => rfl, rfl, fun _ => rfl⟩
  | mea s f h => exact ⟨rfl, h, fun _ => rfl, rfl, fun _ => rfl⟩
  | lmp s f h => exact ⟨rfl, rfl, h, rfl, fun _ => rfl⟩
  | cbl s f h => exact ⟨rfl, rfl, fun _ => rfl, h⟩
  | _ => exact ⟨rfl, rfl, fun _ => rfl, rfl, fun _ => rfl⟩

/-- What no driving changes: the uptime, the description, the detectors, the waiting commands; of LNK only the report
queue and the lost count; of FLT only the inbox, at its end. -/
theorem frame (h : Drives s t) :
    t.uptime = s.uptime ∧ t.jds = s.jds ∧ t.det = s.det ∧ t.pending = s.pending ∧
    (∃ l, t.flt = { s.flt with inbox := s.flt.inbox ++ l }) ∧
    t.lnk = { s.lnk with reports := t.lnk.reports, lost := t.lnk.lost } := by
  induction h with
  | refl s => exact ⟨rfl, rfl, rfl, rfl, ⟨[], by simp⟩, rfl⟩
  | trans h1 h2 ih1 ih2 =>
    obtain ⟨a, b, c, d, ⟨l, e⟩, f⟩ := ih1
    obtain ⟨a', b', c', d', ⟨l', e'⟩, f'⟩ := ih2
    refine ⟨a'.trans a, b'.trans b, c'.trans c, d'.trans d, ⟨l ++ l', ?_⟩, ?_⟩
    · rw [e', e]; simp
    · rw [f']; rw [f]
  | post s k a j l =>
    refine ⟨rfl, rfl, rfl, rfl, ⟨[], by simp [Machine.post]⟩, ?_⟩
    simp only [Machine.post, State.onLnk_lnk]
    split
    · unfold Lnk.enqueue Lnk.append
      repeat' split
      all_goals rfl
    · rfl
  | event s e => exact ⟨rfl, rfl, rfl, rfl, ⟨[e], rfl⟩, rfl⟩
  | _ => exact ⟨rfl, rfl, rfl, rfl, ⟨[], by simp [onRelay]⟩, rfl⟩

end Drives

/-! ### The operations -/

theorem raise_drives (k : FaultKind) (j : Subject) (s : State) : Drives s (raise k j s) := .event s _
theorem clear_drives (k : FaultKind) (j : Subject) (s : State) : Drives s (clear k j s) := .event s _

theorem onChange_drives (a b : Bool) (k : FaultKind) (j : Subject) (s : State) : Drives s (onChange a b k j s) := by
  unfold onChange
  exact .ite (.event s _) (.ite (.event s _) (.refl s))

theorem coilFault_drives (f : CoilFault) (a b : FaultKind) (j : Subject) (s : State) :
    Drives s (coilFault f a b j s) := by
  cases f <;> first | exact .refl s | exact .event s _

/-! Engine -/

theorem Mea.put_same (m : Mea) (i : MSlot) (x : SlotContent) : m.Same (m.put i x) := by cases i <;> rfl

theorem place_drives (i : MSlot) (r : Req) (s : State) : Drives s (place i r s) :=
  .ite (.mea s _ (Mea.put_same _ _ _)) (.refl s)

theorem withdraw_drives (i : MSlot) (s : State) : Drives s (withdraw i s) :=
  .ite (.mea s _ (Mea.put_same _ _ _)) (.refl s)

theorem grant_drives (n : Nat) (s : State) : Drives s (grant n s) := by
  unfold grant
  split
  · exact .refl s
  · split
    · exact .refl s
    · rename_i i _
      split
      · exact .refl s
      · exact .mea s _ (by cases i <;> rfl)

theorem placeDiag_drives (s : State) : Drives s (placeDiag s) := by
  unfold placeDiag
  repeat' split
  all_goals first | exact .refl s | exact (Drives.mea s _ (by rfl)).trans (place_drives _ _ _)

theorem placeProof_drives (s : State) : Drives s (placeProof s) := by
  unfold placeProof
  repeat' split
  all_goals first | exact .refl s | exact place_drives _ _ _

theorem placeOffCheck_drives (c : Circuit) (s : State) : Drives s (placeOffCheck c s) :=
  (Drives.lmp s _ fun _ => rfl).trans (place_drives _ _ _)

theorem placeEvaluation_drives (c : Circuit) (s : State) : Drives s (placeEvaluation c s) :=
  (Drives.lmp s _ fun _ => rfl).trans (place_drives _ _ _)

theorem placeRoutine_drives (s : State) : Drives s (placeRoutine s) := by
  unfold placeRoutine
  simp only
  repeat' split
  all_goals first | exact .refl s | exact placeOffCheck_drives _ s | exact placeEvaluation_drives _ s

theorem placeCbl_drives (s : State) : Drives s (placeCbl s) := by
  unfold placeCbl
  repeat' split
  all_goals first | exact .refl s | exact (Drives.cbl s _ ⟨rfl, fun _ => rfl⟩).trans (place_drives _ _ _)

theorem startTest_drives (s : State) : Drives s (startTest s) := by
  unfold startTest
  repeat' split
  all_goals first | exact .refl s | exact .cbl s _ ⟨rfl, fun _ => rfl⟩

theorem ownerPlaces_drives (i : MSlot) (s : State) : Drives s (ownerPlaces i s) := by
  cases i
  · exact placeProof_drives s
  · exact placeRoutine_drives s
  · exact (startTest_drives s).trans (placeCbl_drives _)
  · exact placeDiag_drives s

theorem measures_drives (n : Nat) (s : State) : Drives s (measures n s) :=
  ((((((placeProof_drives s).trans (placeRoutine_drives _)).trans (startTest_drives _)).trans (placeCbl_drives _)).trans
    (placeDiag_drives _)).trans (grant_drives _ _))

theorem commandRelease_drives (b : Bool) (s : State) : Drives s (commandRelease b s) := by
  unfold commandRelease
  split <;> first | exact .refl s | exact .cbl s _ ⟨rfl, fun _ => rfl⟩

theorem abandon_drives (s : State) : Drives s (abandon s) := by
  unfold abandon
  split
  · exact .refl s
  · rename_i t _
    refine (((commandRelease_drives _ s).trans (withdraw_drives _ _)).trans (.cbl _ _ ⟨rfl, fun _ => rfl⟩)).trans
      (.cbl _ _ ⟨rfl, fun c => ?_⟩)
    simp only [Tab.get_modify]
    split <;> rfl

theorem cblWatch_drives (s : State) : Drives s (cblWatch s) := by
  unfold cblWatch
  repeat' split
  all_goals first | exact .refl s | exact abandon_drives s

/-! Switching -/

theorem onRelay_drives (c : Circuit) (f : Relay → Relay) (s : State) (h : ∀ r, (f r).coil = r.coil) :
    Drives s (onRelay c f s) := by
  refine .osw s _ fun d => ?_
  simp only [Tab.get_modify]
  split
  · rw [h]
  · rfl

theorem setEntering_drives (c : Circuit) (b : Bool) (s : State) : Drives s (setEntering c b s) :=
  onRelay_drives c _ s fun _ => rfl

/-- A change of a relay section apart from its coil leaves every relay state as it is. -/
theorem relayState_onRelay (c d : Circuit) (f : Relay → Relay) (s : State) (h : ∀ r, (f r).coil = r.coil) :
    relayState (onRelay c f s) d = relayState s d := by
  simp only [relayState, relayAt, onRelay, State.onOsw_osw, Tab.get_modify]
  split
  · rw [h]
  · rfl

theorem greenPermitted_onRelay (c d : Circuit) (f : Relay → Relay) (s : State) (h : ∀ r, (f r).coil = r.coil) :
    greenPermitted (onRelay c f s) d = greenPermitted s d := by
  simp only [greenPermitted, relayState_onRelay c _ f s h]
  rfl

/-- R88: what a command of a relay is: nothing, or a raised switch count, the coil's transition, and what FLT hears. -/
theorem commandRelay_cases (c : Circuit) (on : Bool) (s : State) :
    commandRelay c on s = s ∨ ∃ f, commandRelay c on s =
      coilFault f .relayFailClosed .relayFailOpen (.circuit c)
        (onRelay c (fun r => { r with coil := (r.coil.command on s.stamp s.jds.timing).1 })
          (onRelay c (fun r => { r with switchCount := r.switchCount + 1 }) s)) := by
  unfold commandRelay
  split
  · exact .inl rfl
  · refine .inr ⟨((relayAt s c).coil.command on s.stamp s.jds.timing).2, ?_⟩
    simp only [relayTo]
    congr 1
    refine congrArg (fun t => ({ s with osw := { s.osw with relay := t } } : State)) ?_
    apply Tab.ext_get
    intro i
    simp only [Tab.get_modify]
    split
    · subst_vars; simp [relayAt, onRelay, State.stamp]
    · rfl

theorem commandRelay_off_drives (c : Circuit) (s : State) : Drives s (commandRelay c false s) := by
  rcases commandRelay_cases c false s with h | ⟨f, h⟩
  · rw [h]; exact .refl s
  · rw [h]
    exact ((onRelay_drives c _ s (by intro r; rfl)).trans (.off _ c)).trans (coilFault_drives _ _ _ _ _)

theorem commandRelay_on_drives (c : Circuit) (s : State) (hg : aspectOf c = .green → greenPermitted s c = true) :
    Drives s (commandRelay c true s) := by
  rcases commandRelay_cases c true s with h | ⟨f, h⟩
  · rw [h]; exact .refl s
  · rw [h]
    refine ((onRelay_drives c _ s (by intro r; rfl)).trans (.on _ c ?_)).trans (coilFault_drives _ _ _ _ _)
    intro e
    rw [greenPermitted_onRelay c c _ s (by intro r; rfl)]
    exact hg e

theorem contactorNotice_drives (s : State) : Drives s (contactorNotice s) := .ite (.seq s _) (.refl s)

theorem contactorTo_drives (r : Coil × CoilFault) (s : State) : Drives s (contactorTo r s) := by
  have h : Drives s (coilFault r.2 .contactorFailClosed .contactorFailOpen .none
      (s.onOsw fun o => { o with contactor := r.1 })) :=
    (Drives.osw s _ fun _ => rfl).trans (coilFault_drives _ _ _ _ _)
  exact .ite (h.trans (contactorNotice_drives _)) h

theorem commandContactor_drives (b : Bool) (s : State) : Drives s (commandContactor b s) :=
  .ite (.refl s) (contactorTo_drives _ s)

theorem actCircuit_drives (c : Circuit) (s : State) : Drives s (actCircuit c s) := by
  unfold actCircuit
  repeat' split
  · exact .refl s
  · exact (setEntering_drives c _ s).trans (commandRelay_off_drives c _)
  · exact setEntering_drives c _ s

theorem act_drives (g : Group) (s : State) : Drives s (act g s) := .foldl _ (fun t c => actCircuit_drives c t) _ s

theorem judgeCircuit_drives (c : Circuit) (s : State) : Drives s (judgeCircuit c s) := by
  unfold judgeCircuit
  split
  · rename_i h
    refine (setEntering_drives c _ s).trans (commandRelay_on_drives c _ fun e => ?_)
    rw [setEntering, greenPermitted_onRelay c c _ s (by intro r; rfl)]
    simp only [mayEnergise, Bool.and_eq_true, Bool.or_eq_true, decide_eq_true_eq] at h
    rcases h.2.1.1.2 with h' | h'
    · exact absurd e h'
    · exact h'
  · exact .refl s

theorem askCircuit_drives (c : Circuit) (s : State) : Drives s (askCircuit c s) := by
  unfold askCircuit
  split
  · exact ((onRelay_drives c _ s (by intro r; rfl)).trans (abandon_drives _)).trans (commandRelease_drives _ _)
  · exact .refl s

theorem completeDark_drives (s : State) : Drives s (completeDark s) := by
  have h := Drives.forEach (fun c => commandRelay c false) (fun c t => commandRelay_off_drives c t) s
  unfold completeDark
  generalize Machine.forEach (fun c => commandRelay c false) s = t at h
  simp only
  split
  · refine (h.trans ?_).trans (.forEach _ (fun g t => act_drives g t) _)
    exact .osw _ _ fun _ => rfl
  · refine h.trans ?_
    exact .osw _ _ fun _ => rfl

theorem darkCheck_drives (s : State) : Drives s (darkCheck s) := .ite (completeDark_drives s) (.refl s)

theorem redsCheck_drives (s : State) : Drives s (redsCheck s) :=
  .ite ((Drives.osw s _ fun _ => rfl).trans (commandContactor_drives _ _)) (.refl s)

theorem conflictGroup_drives (g : Group) (s : State) : Drives s (conflictGroup g s) :=
  (Drives.osw s _ fun _ => rfl).trans (onChange_drives _ _ _ _ _)

theorem unproveCircuit_drives (c : Circuit) (s : State) : Drives s (unproveCircuit c s) := by
  refine .ite (.lmp s _ fun d => ?_) (.refl s)
  simp only [Tab.get_modify]
  split <;> rfl

theorem lmpWatch_drives (s : State) : Drives s (lmpWatch s) := .forEach _ (fun c t => unproveCircuit_drives c t) s

theorem oswAfter_drives (s : State) : Drives s (oswAfter s) :=
  ((((((darkCheck_drives s).trans (.forEach _ (fun c t => judgeCircuit_drives c t) _)).trans
    (.forEach _ (fun c t => askCircuit_drives c t) _)).trans (redsCheck_drives _)).trans
    (.forEach _ (fun g t => conflictGroup_drives g t) _)).trans (lmpWatch_drives _)).trans (cblWatch_drives _)

theorem groupCommand_drives (g : Group) (st : GState) (s : State) : Drives s (groupCommand g st s) := by
  have h : Drives s (s.onOsw fun o => { o with stored := o.stored.set g st }) := .osw s _ fun _ => rfl
  unfold groupCommand
  simp only
  split
  · exact (h.trans (act_drives g _)).trans (oswAfter_drives _)
  · exact h

theorem darkStart_drives (s : State) : Drives s (darkStart s) :=
  (Drives.osw s _ fun c => by simp).trans (commandContactor_drives _ _)

theorem oswMode_drives (m : Mode) (s : State) : Drives s (oswMode m s) := by
  have h : Drives s (s.onOsw fun o => { o with phase := .redsFirst }) := .osw s _ fun _ => rfl
  unfold oswMode
  split
  · refine .ite ((h.trans ?_).trans (oswAfter_drives _)) (.refl s)
    exact .forEach _ (fun g t => act_drives g t) _
  · refine .ite ?_ (.refl s)
    exact (darkStart_drives s).trans (oswAfter_drives _)
  · exact .refl s

/-! Plans -/

theorem activate_drives (s : State) : Drives s (activate s) := by
  unfold activate
  simp only
  repeat' split
  · exact .refl s
  · exact .plans s _ rfl
  · exact (Drives.plans s _ (by rfl)).trans (.post _ _ _ _ _)
  · exact .plans s _ rfl

theorem evaluate_drives (s : State) : Drives s (evaluate s) := by
  unfold evaluate
  exact (activate_drives s).trans (.plans _ _ rfl)

theorem postDemand_drives (k : Stage) (s : State) : Drives s (postDemand k s) := .ite (.refl s) (.seq s _)
theorem holdDemand_drives (k : Stage) (s : State) : Drives s (holdDemand k s) := .ite (.seq s _) (.refl s)
theorem holdDemands_drives (s : State) : Drives s (holdDemands s) := .forEach _ (fun k t => holdDemand_drives k t) s
theorem repost_drives (k : Stage) (s : State) : Drives s (repost k s) := .ite (.seq s _) (.refl s)

theorem takePlan_drives (o : Occasion) (s : State) : Drives s (takePlan o s) := by
  unfold takePlan
  split
  · exact .refl s
  · exact (((Drives.plans s _ (by rfl)).trans (.post _ _ _ _ _)).trans (.seq _ _)).trans (holdDemands_drives _)

/-! Sequencer -/

theorem startMaximum_drives (s : State) : Drives s (startMaximum s) := .ite (.seq s _) (.refl s)

theorem commitEntry_drives (a : Option Stage) (o : Occasion) (s : State) : Drives s (commitEntry a o s) :=
  (((takePlan_drives o s).trans (startMaximum_drives _)).trans (.seq _ _)).trans (cblWatch_drives _)

theorem seqReact_drives (s : State) : Drives s (seqReact s) := by
  have h1 := startMaximum_drives s
  have h2 : ∀ t, Drives t (holdGap t) := fun t => .ite (.seq t _) (.refl t)
  have h3 : ∀ t, Drives t (followDemand t) := fun t => .ite (.seq t _) (.refl t)
  exact .ite ((h1.trans (h2 _)).trans (h3 _)) (.refl s)

theorem seqEnd_drives (s : State) : Drives s (seqEnd s) := by
  unfold seqEnd
  repeat' split
  · exact commitEntry_drives _ _ s
  · exact (Drives.seq s _).trans (commitEntry_drives _ _ _)
  · exact .refl s

theorem stopCurrent_drives (s : State) : Drives s (stopCurrent s) := by
  unfold stopCurrent
  split
  · exact .refl s
  · exact (Drives.seq s _).trans (repost_drives _ _)

theorem stageChange_drives (n p : Option Stage) (i : Nat) (s : State) : Drives s (stageChange n p i s) :=
  .post s _ _ _ _

theorem enterAllRedHeld_drives (p : Option Stage) (n : Nat) (s : State) : Drives s (enterAllRedHeld p n s) :=
  (Drives.seq s _).trans (stageChange_drives _ _ _ _)

theorem terminate_drives (s : State) : Drives s (terminate s) := .ite (commitEntry_drives _ _ s) (.refl s)

theorem stageBegin_drives (k : Stage) (e : Entry) (n : Nat) (s : State) : Drives s (stageBegin k e n s) := by
  exact (((Drives.seq s _).trans (startMaximum_drives _)).trans (stageChange_drives _ _ _ _)).trans (terminate_drives _)

theorem issue_drives (e : TtEntry) (s : State) : Drives s (issue e s) :=
  ((Drives.seq s _).trans (.seq _ _)).trans (groupCommand_drives _ _ _)

theorem reachEntry_drives (e : TtEntry) (s : State) : Drives s (reachEntry e s) := .ite (.seq s _) (issue_drives e s)

theorem heldCheck_drives (s : State) : Drives s (heldCheck s) :=
  .foldl _ (fun t e => .ite (issue_drives e t) (.refl t)) _ s

theorem endInterstage_drives (s : State) : Drives s (endInterstage s) := by
  unfold endInterstage
  split
  · exact stageBegin_drives _ _ _ s
  · exact enterAllRedHeld_drives _ _ s

theorem afterLead_drives (tg : Target) (l : List TtEntry) (k : Option Stage) (s : State) :
    Drives s (afterLead tg l k s) := by
  unfold afterLead
  split
  · exact stageBegin_drives _ _ _ s
  · exact enterAllRedHeld_drives _ _ s
  · simp only
    split
    · exact (Drives.seq s _).trans (.event _ _)
    · exact .seq s _

theorem leadExpires_drives (s : State) : Drives s (leadExpires s) := by
  unfold leadExpires
  split
  · exact afterLead_drives _ _ _ s
  · exact (stopCurrent_drives s).trans (afterLead_drives _ _ _ _)

theorem seqIdle_drives (s : State) : Drives s (seqIdle s) := (stopCurrent_drives s).trans (.seq _ _)

theorem redGroup_drives (g : Group) (s : State) : Drives s (redGroup g s) :=
  .ite ((Drives.seq s _).trans (groupCommand_drives _ _ _)) (.refl s)

theorem seqStart_drives (s : State) : Drives s (seqStart s) :=
  (Drives.seq s _).trans (.forEach _ (fun g t => redGroup_drives g t) _)

theorem emptyTarget_drives (s : State) : Drives s (emptyTarget s) := by
  unfold emptyTarget
  split
  · exact (Drives.seq s _).trans (cblWatch_drives _)
  · exact .refl s

theorem seqAllRed_drives (s : State) : Drives s (seqAllRed s) :=
  .ite ((Drives.seq s _).trans (emptyTarget_drives _)) ((Drives.seq s _).trans (terminate_drives _))

theorem noStage_drives (s : State) : Drives s (noStage s) := .seq s _

theorem seqMode_drives (p n : Mode) (s : State) : Drives s (seqMode p n s) := by
  unfold seqMode
  split
  · exact seqIdle_drives s
  · exact seqIdle_drives s
  · exact seqStart_drives s
  · exact seqAllRed_drives s
  · exact seqEnd_drives s
  · exact (noStage_drives s).trans (commitEntry_drives _ _ _)
  · exact .refl s

theorem advanceTo_drives (x : Stage) (s : State) : Drives s (advanceTo x s) := by
  unfold advanceTo
  repeat' split
  all_goals first | exact .refl s | exact .seq s _ | exact commitEntry_drives _ _ s

theorem minimumExpires_drives (s : State) : Drives s (minimumExpires s) := by
  unfold minimumExpires
  simp only
  split
  · exact .ite ((Drives.seq s _).trans (commitEntry_drives _ _ _)) (.seq s _)
  · exact (Drives.seq s _).trans (seqEnd_drives _)

theorem startUpEnds_drives (s : State) : Drives s (startUpEnds s) := by
  unfold startUpEnds
  simp only
  split
  · exact ((noStage_drives s).trans (takePlan_drives _ _)).trans (enterAllRedHeld_drives _ _ _)
  · exact ((noStage_drives s).trans (takePlan_drives _ _)).trans (commitEntry_drives _ _ _)

end Sys2Proof.Machine
end

