-- ==== Sys2Proof/Laws/Moment.lean ====
section
/-! SUPPORT. What a step does on an empty queue: the moment ends, and one millisecond passes. -/

namespace Sys2Proof.Machine

variable {s : State}

theorem endMoment_of_none (h : s.osw.freed = none) : endMoment s = s := by simp [endMoment, h]

theorem endMoment_of_some {c : Circuit} (h : s.osw.freed = some c) :
    endMoment s = conclude (oswAfter (s.onOsw fun o => { o with freed := none })) := by simp [endMoment, h]

theorem step_of_empty (h : s.pending = []) : step s = .next (tick (endMoment s)) := by simp [step, h, idle]

theorem step_of_command {c : Instr} {rest : List Instr} (h : s.pending = c :: rest) :
    step s = exec c { s with pending := rest } := by simp [step, h]

end Sys2Proof.Machine
end

