-- ==== Sys2Proof/Laws/PerInstr.lean ====
section
/-! SUPPORT. One statement per command: R186, a well-formed command that carries a request carries one that a frame can
hold. -/

namespace Sys2Proof.Laws.BodyFits

open Sys2Proof Sys2Proof.Machine

/-- R186: the request of a well-formed command has at most 246 body bytes. -/
def Statement (i : Instr) : Prop := i.WellFormed → ∀ f, i.request? = some f → f.body.length ≤ 246

/-- What `bodyFits` says of the one request. -/
theorem of_bodyFits {i : Instr} {k tag : Byte} {body : List Byte} (h : i.request? = some ⟨k, tag, body⟩)
    (w : i.wellFormed = true → bodyFits body = true) : Statement i := by
  intro hw f hf
  rw [h] at hf
  cases hf
  simpa [bodyFits] using w hw

/-- An event carries no request. -/
theorem of_none {i : Instr} (h : i.request? = none) : Statement i := by
  intro _ f hf
  rw [h] at hf
  cases hf

theorem partReset (rate1 rate0 : Bool) : Statement (.partReset rate1 rate0) := of_none rfl
theorem junctionOpen (tag : Byte) (body : List Byte) : Statement (.junctionOpen tag body) := of_bodyFits rfl id
theorem junctionWrite (tag : Byte) (body : List Byte) : Statement (.junctionWrite tag body) := of_bodyFits rfl id
theorem junctionAccept (tag : Byte) (body : List Byte) : Statement (.junctionAccept tag body) := of_bodyFits rfl id
theorem junctionRead (tag : Byte) (body : List Byte) : Statement (.junctionRead tag body) := of_bodyFits rfl id
theorem planOpen (tag : Byte) (body : List Byte) : Statement (.planOpen tag body) := of_bodyFits rfl id
theorem planWriteHeader (tag : Byte) (body : List Byte) : Statement (.planWriteHeader tag body) := of_bodyFits rfl (by simp +contextual [Instr.wellFormed])
theorem planWriteSequence (tag : Byte) (body : List Byte) : Statement (.planWriteSequence tag body) := of_bodyFits rfl (by simp +contextual [Instr.wellFormed])
theorem planWriteEntryTiming (tag : Byte) (body : List Byte) : Statement (.planWriteEntryTiming tag body) := of_bodyFits rfl (by simp +contextual [Instr.wellFormed])
theorem planClose (tag : Byte) (body : List Byte) : Statement (.planClose tag body) := of_bodyFits rfl id
theorem planRead (tag : Byte) (body : List Byte) : Statement (.planRead tag body) := of_bodyFits rfl id
theorem planSelect (tag : Byte) (body : List Byte) : Statement (.planSelect tag body) := of_bodyFits rfl id
theorem scheduleWrite (tag : Byte) (body : List Byte) : Statement (.scheduleWrite tag body) := of_bodyFits rfl id
theorem scheduleRead (tag : Byte) (body : List Byte) : Statement (.scheduleRead tag body) := of_bodyFits rfl id
theorem clockSet (tag : Byte) (body : List Byte) : Statement (.clockSet tag body) := of_bodyFits rfl id
theorem clockRead (tag : Byte) (body : List Byte) : Statement (.clockRead tag body) := of_bodyFits rfl id
theorem restart (tag : Byte) (body : List Byte) : Statement (.restart tag body) := of_bodyFits rfl id
theorem resume (tag : Byte) (body : List Byte) : Statement (.resume tag body) := of_bodyFits rfl id
theorem goAllRed (tag : Byte) (body : List Byte) : Statement (.goAllRed tag body) := of_bodyFits rfl id
theorem goDark (tag : Byte) (body : List Byte) : Statement (.goDark tag body) := of_bodyFits rfl id
theorem hold (tag : Byte) (body : List Byte) : Statement (.hold tag body) := of_bodyFits rfl id
theorem releaseHold (tag : Byte) (body : List Byte) : Statement (.releaseHold tag body) := of_bodyFits rfl id
theorem advance (tag : Byte) (body : List Byte) : Statement (.advance tag body) := of_bodyFits rfl id
theorem demandInsert (tag : Byte) (body : List Byte) : Statement (.demandInsert tag body) := of_bodyFits rfl id
theorem statusRead (tag : Byte) (body : List Byte) : Statement (.statusRead tag body) := of_bodyFits rfl id
theorem circuitRead (tag : Byte) (body : List Byte) : Statement (.circuitRead tag body) := of_bodyFits rfl id
theorem lampLearn (tag : Byte) (body : List Byte) : Statement (.lampLearn tag body) := of_bodyFits rfl id
theorem cableTestNow (tag : Byte) (body : List Byte) : Statement (.cableTestNow tag body) := of_bodyFits rfl id
theorem cableSuspend (tag : Byte) (body : List Byte) : Statement (.cableSuspend tag body) := of_bodyFits rfl id
theorem cableResume (tag : Byte) (body : List Byte) : Statement (.cableResume tag body) := of_bodyFits rfl id
theorem detectorRead (tag : Byte) (body : List Byte) : Statement (.detectorRead tag body) := of_bodyFits rfl id
theorem faultListRead (tag : Byte) (body : List Byte) : Statement (.faultListRead tag body) := of_bodyFits rfl id
theorem faultClear (tag : Byte) (body : List Byte) : Statement (.faultClear tag body) := of_bodyFits rfl (by simp +contextual [Instr.wellFormed])
theorem faultClearAll (tag : Byte) (body : List Byte) : Statement (.faultClearAll tag body) := of_bodyFits rfl (by simp +contextual [Instr.wellFormed])
theorem measureSetOn (tag : Byte) (body : List Byte) : Statement (.measureSetOn tag body) := of_bodyFits rfl (by simp +contextual [Instr.wellFormed])
theorem measureSetOff (tag : Byte) (body : List Byte) : Statement (.measureSetOff tag body) := of_bodyFits rfl (by simp +contextual [Instr.wellFormed])
theorem measureRead (tag : Byte) (body : List Byte) : Statement (.measureRead tag body) := of_bodyFits rfl id
theorem reportControl (tag : Byte) (body : List Byte) : Statement (.reportControl tag body) := of_bodyFits rfl id
theorem linkStatusRead (tag : Byte) (body : List Byte) : Statement (.linkStatusRead tag body) := of_bodyFits rfl (by simp +contextual [Instr.wellFormed])
theorem linkStatusReadAndZero (tag : Byte) (body : List Byte) : Statement (.linkStatusReadAndZero tag body) := of_bodyFits rfl (by simp +contextual [Instr.wellFormed])
theorem unknownRequest (kind tag : Byte) (body : List Byte) : Statement (.unknownRequest kind tag body) := of_bodyFits rfl (by simp +contextual [Instr.wellFormed])
theorem frameReceived (chars : List RxChar) : Statement (.frameReceived chars) := of_none rfl
theorem gapTimeout : Statement .gapTimeout := of_none rfl
theorem breakRecognised : Statement .breakRecognised := of_none rfl
theorem linkReset : Statement .linkReset := of_none rfl
theorem lineReadyChange (asserted : Bool) : Statement (.lineReadyChange asserted) := of_none rfl
theorem frameSent : Statement .frameSent := of_none rfl
theorem clockSecond : Statement .clockSecond := of_none rfl
theorem minimumGreenExpiry : Statement .minimumGreenExpiry := of_none rfl
theorem gapExpiry : Statement .gapExpiry := of_none rfl
theorem maximumGreenReached : Statement .maximumGreenReached := of_none rfl
theorem fixedDurationReached : Statement .fixedDurationReached := of_none rfl
theorem floorWaitReached : Statement .floorWaitReached := of_none rfl
theorem commitLeadExpiry : Statement .commitLeadExpiry := of_none rfl
theorem timetableEntryDue : Statement .timetableEntryDue := of_none rfl
theorem redProofTimeout : Statement .redProofTimeout := of_none rfl
theorem interstageEnd : Statement .interstageEnd := of_none rfl
theorem startUpAllRedExpiry : Statement .startUpAllRedExpiry := of_none rfl
theorem detectorInputChange (d : Detector) (closed : Bool) : Statement (.detectorInputChange d closed) := of_none rfl
theorem detectorActivation (d : Detector) : Statement (.detectorActivation d) := of_none rfl
theorem detectorRelease (d : Detector) : Statement (.detectorRelease d) := of_none rfl
theorem detectorStuckOn (d : Detector) : Statement (.detectorStuckOn d) := of_none rfl
theorem detectorSilent (d : Detector) : Statement (.detectorSilent d) := of_none rfl
theorem chatterIntervalEnd : Statement .chatterIntervalEnd := of_none rfl
theorem relayFeedbackChange (input : Contact) (closed : Bool) : Statement (.relayFeedbackChange input closed) := of_none rfl
theorem relayFeedbackAccepted (c : Circuit) : Statement (.relayFeedbackAccepted c) := of_none rfl
theorem relayTransitionTimeout (c : Circuit) : Statement (.relayTransitionTimeout c) := of_none rfl
theorem contactorFeedbackAccepted : Statement .contactorFeedbackAccepted := of_none rfl
theorem contactorTransitionTimeout : Statement .contactorTransitionTimeout := of_none rfl
theorem deadTimeElapsed (c : Circuit) : Statement (.deadTimeElapsed c) := of_none rfl
theorem signalsOffInputChange (asserted : Bool) : Statement (.signalsOffInputChange asserted) := of_none rfl
theorem signalsOffAsserted : Statement .signalsOffAsserted := of_none rfl
theorem signalsOffReleased : Statement .signalsOffReleased := of_none rfl
theorem diagnosticDue : Statement .diagnosticDue := of_none rfl
theorem conversionComplete (input : Int) : Statement (.conversionComplete input) := of_none rfl
theorem lampSettleTimeElapsed (c : Circuit) : Statement (.lampSettleTimeElapsed c) := of_none rfl
theorem offCheckEligibilityTime (c : Circuit) : Statement (.offCheckEligibilityTime c) := of_none rfl
theorem cableEligibilityTime (c : Circuit) : Statement (.cableEligibilityTime c) := of_none rfl
theorem cablePeriodElapsed (c : Circuit) : Statement (.cablePeriodElapsed c) := of_none rfl
theorem injectorLoadSettle : Statement .injectorLoadSettle := of_none rfl
theorem injectorTestSettle : Statement .injectorTestSettle := of_none rfl
theorem injectorClear : Statement .injectorClear := of_none rfl
theorem injectorStuck : Statement .injectorStuck := of_none rfl
theorem testOverdue (c : Circuit) : Statement (.testOverdue c) := of_none rfl
theorem noise (b : Byte) : Statement (.noise b) := of_none rfl

end Sys2Proof.Laws.BodyFits
end

