-- ==== Sys2Proof/Laws/Responds.lean ====
section
/-! SUPPORT. What FLT can do on top of the driving of the other blocks, said once: `Responds s t` holds of every
operation of Machine/Faults.lean, `settle` and `conclude` apart from the start of a frame included. -/

namespace Sys2Proof.Machine

/-- A path of drivings, of restarts of LMP's sections (R143), of changes of FLT that leave its list and its output alone, and of lists set with the output
that follows them, no longer than 32 entries where the list before was not. -/
inductive Responds : State → State → Prop
  | drives {s t : State} (h : Drives s t) : Responds s t
  | trans {s t u : State} : Responds s t → Responds t u → Responds s u
  | lamps (s : State) (f : Lmp → Lmp) : Responds s (s.onLmp f)
  | flt (s : State) (f : Flt → Flt) (h : (f s.flt).list = s.flt.list ∧ (f s.flt).output = s.flt.output) :
      Responds s (s.onFlt f)
  | list (s : State) (l : List FEntry) (h : s.flt.list.length ≤ 32 → l.length ≤ 32) : Responds s (setList l s)

namespace Responds

variable {s t u : State}

theorem refl (s : State) : Responds s s := .drives (.refl s)

theorem foldl {α : Type} (f : State → α → State) (hf : ∀ t a, Responds t (f t a)) (l : List α) (s : State) :
    Responds s (l.foldl f s) := by
  induction l generalizing s with
  | nil => exact refl s
  | cons a l ih => exact (hf s a).trans (ih _)

theorem ite {p : Prop} [Decidable p] (ht : Responds s t) (hu : Responds s u) :
    Responds s (if p then t else u) := by
  split <;> assumption

/-- What no response changes: the uptime, the description, the detectors, the waiting commands, and all of LNK but the
report queue and the lost count. -/
theorem frame (h : Responds s t) :
    t.uptime = s.uptime ∧ t.jds = s.jds ∧ t.det = s.det ∧ t.pending = s.pending ∧
    t.lnk = { s.lnk with reports := t.lnk.reports, lost := t.lnk.lost } := by
  induction h with
  | drives h => obtain ⟨a, b, c, d, -, e⟩ := h.frame; exact ⟨a, b, c, d, e⟩
  | trans h1 h2 ih1 ih2 =>
    obtain ⟨a, b, c, d, e⟩ := ih1
    obtain ⟨a', b', c', d', e'⟩ := ih2
    refine ⟨a'.trans a, b'.trans b, c'.trans c, d'.trans d, ?_⟩
    rw [e']; rw [e]
  | lamps s f => exact ⟨rfl, rfl, rfl, rfl, rfl⟩
  | flt s f h => exact ⟨rfl, rfl, rfl, rfl, rfl⟩
  | list s l h => exact ⟨rfl, rfl, rfl, rfl, rfl⟩

/-- The readings, plan contents and cable sections that no response changes. -/
theorem same (h : Responds s t) : s.plans.Same t.plans ∧ s.mea.Same t.mea ∧ s.cbl.Same t.cbl := by
  induction h with
  | drives h => obtain ⟨a, b, -, d⟩ := h.same; exact ⟨a, b, d⟩
  | trans h1 h2 ih1 ih2 =>
    obtain ⟨a, b, d, e⟩ := ih1
    obtain ⟨a', b', d', e'⟩ := ih2
    refine ⟨?_, ?_, d'.trans d, fun i => ?_⟩
    · unfold Plans.Same at *; rw [a']; rw [a]
    · unfold Mea.Same at *; rw [b']; rw [b]
    · rw [e' i]; rw [e i]
  | lamps s f => exact ⟨rfl, rfl, rfl, fun _ => rfl⟩
  | flt s f h => exact ⟨rfl, rfl, rfl, fun _ => rfl⟩
  | list s l h => exact ⟨rfl, rfl, rfl, fun _ => rfl⟩

end Responds

theorem changeEntry_responds (k : FaultKind) (j : Subject) (f : FEntry → FEntry) (s : State) :
    Responds s (changeEntry k j f s) := .list s _ (by simp)

theorem setAside_responds (s : State) : Responds s (setAside s) := .list s _ (by simp)

/-- R178: an eviction removes one entry. -/
theorem evict_length : ∀ (l m : List FEntry), evict l = some m → m.length + 1 = l.length
  | [], m, h => by simp [evict] at h
  | e :: l, m, h => by
    unfold evict at h
    split at h
    · cases h; rfl
    · cases hl : evict l with
      | none => simp [hl] at h
      | some k =>
        have := evict_length l k hl
        rw [hl] at h
        cases h
        simp [this]

theorem record_responds (k : FaultKind) (j : Subject) (s : State) : Responds s (record k j s).2 := by
  unfold record
  simp only
  split
  · exact changeEntry_responds _ _ _ s
  · split
    · rename_i h
      exact .list s _ (by intro; simp; omega)
    · split
      · rename_i l h
        have := evict_length _ _ h
        exact .list s _ (by intro; simp; omega)
      · exact .flt s (fun f => { f with overflow := true }) ⟨rfl, rfl⟩


theorem lmpRestart_responds (s : State) : Responds s (lmpRestart s) := .lamps s _

theorem changeMode_responds (m : Mode) (c : ModeCause) (s : State) : Responds s (changeMode m c s) := by
  have h1 : Responds s (s.onFlt fun f => { f with mode := m }) := .flt s _ ⟨rfl, rfl⟩
  have h2 := h1.trans (.ite (p := m = .dark) (setAside_responds _) (.refl _))
  have h3 := h2.trans (.drives ((seqMode_drives s.flt.mode m _).trans (oswMode_drives m _)))
  have h4 := h3.trans (.ite (p := (s.flt.mode = .dark && m = .startUp) = true) (lmpRestart_responds _) (.refl _))
  exact h4.trans (.drives (.post _ _ _ _ _))

theorem enterDark_responds (d : DarkCause) (c : ModeCause) (s : State) : Responds s (enterDark d c s) :=
  (Responds.flt s _ ⟨rfl, rfl⟩).trans (changeMode_responds _ _ _)

theorem clearEntry_responds (k : FaultKind) (j : Subject) (s : State) : Responds s (clearEntry k j s) :=
  (changeEntry_responds _ _ _ s).trans (.drives (.post _ _ _ _ _))

theorem clearStandIns_responds (s : State) : Responds s (clearStandIns s) :=
  .foldl _ (fun t _ => clearEntry_responds _ _ t) _ s

theorem startUp_responds (c : ModeCause) (s : State) : Responds s (startUp c s) := by
  have h := (changeMode_responds .startUp c s).trans (clearStandIns_responds _)
  unfold startUp
  simp only
  split
  · exact h.trans (.ite (changeMode_responds _ _ _) (.refl _))
  · exact h

theorem autoRestart_responds (s : State) : Responds s (autoRestart s) := .ite (startUp_responds _ s) (.refl s)

theorem takeClear_responds (k : FaultKind) (j : Subject) (s : State) : Responds s (takeClear k j s) := by
  unfold takeClear
  split
  · exact .drives (.post _ _ _ _ _)
  · split
    · exact (clearEntry_responds _ _ s).trans (autoRestart_responds _)
    · exact clearEntry_responds _ _ s
    · exact .refl s

theorem passEntry_responds (k : FaultKind) (j : Subject) (s : State) : Responds s (passEntry k j s) :=
  .ite (clearEntry_responds _ _ s) (.refl s)

theorem takePassed_responds (k : FaultKind) (j : Subject) (s : State) : Responds s (takePassed k j s) :=
  .ite ((passEntry_responds _ _ s).trans (passEntry_responds _ _ _)) (passEntry_responds _ _ s)

theorem respond_responds (r : Response) (k : FaultKind) (j : Subject) (s : State) : Responds s (respond r k j s) := by
  unfold respond
  simp only
  split
  · split
    · exact .flt s _ ⟨rfl, rfl⟩
    · exact .refl s
  · split
    · exact enterDark_responds _ _ s
    · exact changeMode_responds _ _ s

theorem takeRaise_responds (k : FaultKind) (j : Subject) (d : Byte) (s : State) : Responds s (takeRaise k j d s) :=
  ((record_responds k j s).trans (.drives (.post _ _ _ _ _))).trans (respond_responds _ _ _ _)

theorem fltTake_responds (e : FltEvent) (s : State) : Responds s (fltTake e s) := by
  cases e with
  | raise k j d => exact takeRaise_responds k j d s
  | clear k j => exact takeClear_responds k j s
  | passed k j => exact takePassed_responds k j s
  | firstInterstage => exact .ite (changeMode_responds _ _ s) (.refl s)

theorem drain_responds : ∀ (n : Nat) (s : State), Responds s (drain n s)
  | 0, s => .flt s _ ⟨rfl, rfl⟩
  | n + 1, s => by
    unfold drain
    split
    · exact .refl s
    · exact ((Responds.flt s _ ⟨rfl, rfl⟩).trans (fltTake_responds _ _)).trans (drain_responds n _)

/-- After FLT has taken its events, none is left. -/
theorem drain_inbox : ∀ (n : Nat) (s : State), (drain n s).flt.inbox = []
  | 0, s => rfl
  | n + 1, s => by
    unfold drain
    split
    · assumption
    · exact drain_inbox n _

/-- With an empty inbox FLT has nothing to take. -/
theorem drain_of_empty (n : Nat) (s : State) (h : s.flt.inbox = []) : drain n s = s := by
  cases n with
  | zero =>
    show { s with flt := { s.flt with inbox := [] } } = s
    rw [← h]
  | succ n => simp [drain, h]

theorem settle_responds (s : State) : Responds s (settle s) :=
  (drain_responds _ s).trans (.drives (measures_drives _ _))

end Sys2Proof.Machine
end

