-- ==== Sys2Proof/Tests/Slice0.lean ====
section
/-! SUPPORT. Small checks of the model: ill-formed commands, the worked examples of the spec, and for every statement
with hypotheses a concrete state and operands that meet them. -/

set_option Elab.async false

namespace Sys2Proof.Tests

open Sys2Proof Sys2Proof.Machine

/-! ### Helpers -/

/-- The set of the members with these numbers. -/
def nums (n : Nat) (l : List Nat) : Flags n := Tab.ofFn fun i => l.contains (i.val + 1)

/-- The table that holds these, and `d` elsewhere: pairs of number and thing. -/
def tab {α : Type} (n : Nat) (d : α) (l : List (Nat × α)) : Tab α n :=
  Tab.ofFn fun i => ((l.find? fun p => p.1 = i.val + 1).map (·.2)).getD d

/-- What a command leaves: `p` holds of the state it answers. -/
def ran (i : Instr) (s : State) (p : State → Bool) : Bool :=
  match exec i s with
  | .next t => p t
  | _ => false

/-- The oldest waiting request. -/
def ask (kind tag : Byte) (body : List Byte) (s : State) : State :=
  { s with lnk := { s.lnk with requests := [⟨kind, tag, body⟩] } }

/-- The example junction of chapters 1 and 2 (01 Worked example, 02 2.6). -/
def junction : Jds where
  desc := .accepted
  group := tab 16 {} [(1, { kind := .vehicle }), (2, { kind := .vehicle }),
    (3, { kind := .pedestrian, clearance := 80 }), (4, { kind := .vehicle })]
  circuit := tab 48 {} ([(1, { fitted := true, lamps := 2, reference := 265 }), (2, { fitted := true, lamps := 2 }),
    (3, { fitted := true, lamps := 2 })] ++
    [4, 5, 6].map (fun n => (n, { fitted := true, technology := .led, lamps := 2 })) ++
    [7, 9, 10, 11, 12].map (fun n => (n, { fitted := true, technology := .led })))
  conflict := tab 16 (Tab.const 16 false) [(1, nums 16 [2, 4]), (2, nums 16 [1, 3]), (3, nums 16 [2]), (4, nums 16 [1])]
  intergreen := tab 16 (Tab.const 16 0) [(1, tab 16 0 [(2, 50), (4, 40)]), (2, tab 16 0 [(1, 60), (3, 70)]),
    (3, tab 16 0 [(2, 90)]), (4, tab 16 0 [(1, 150)])]
  stage := tab 12 (Tab.const 16 false) [(1, nums 16 [1, 3]), (2, nums 16 [2]), (3, nums 16 [2, 4])]
  detector := tab 24 {} [(1, { kind := .presence, demand := nums 12 [2], extend := nums 12 [2] }),
    (2, { kind := .push, demand := nums 12 [1] })]

/-- The DEMAND plan of 02 2.6 in slot P1: S1, S3, S2. -/
def library : Plans where
  slot := tab 4 {} [(1, {
    state := .valid, id := 1, length := 3
    entries := tab 12 {} [(1, { stage := 0 }), (2, { stage := 2 }), (3, { stage := 1 })] })]

/-- The junction DARK after its acceptance, the plan pending. -/
def dark : State where
  jds := junction
  plans := { library with pendingPlan := some 0 }
  flt := { mode := .dark, darkCause := .acceptance }

/-- S1 current at entry 1 in RUN, RUNNING, its elapsed time in milliseconds given. -/
def running (ms : Nat) : State where
  jds := junction
  plans := { library with inForce := some 0 }
  flt := { mode := .run, restartPermitted := true }
  osw := { phase := .live, contactor := { commanded := true, state := .closed, feedback := true, raw := true } }
  seq := {
    state := .stage, substate := some .running, current := some 0, position := some 0
    elapsed := some ms, gap := some ms
    commanded := tab 16 .off [(1, .green), (2, .red), (3, .green), (4, .red)] }

/-! ### Well-formedness refuses (R186, R187; log 5) -/

theorem test_wf_body_too_long : Instr.wellFormed (.junctionOpen 0 (List.replicate 247 0)) = false := by decide +kernel
theorem test_wf_body_longest : Instr.wellFormed (.junctionOpen 0 (List.replicate 246 0)) = true := by decide +kernel
theorem test_wf_header_not_sequence : Instr.wellFormed (.planWriteHeader 0 [1, 2, 0, 0]) = false := by decide
theorem test_wf_header_not_timing : Instr.wellFormed (.planWriteHeader 0 [1, 3, 0, 0]) = false := by decide
theorem test_wf_sequence_kind : Instr.wellFormed (.planWriteSequence 0 [1, 1, 1, 1]) = false := by decide
theorem test_wf_timing_kind : Instr.wellFormed (.planWriteEntryTiming 0 [1, 2, 1, 1]) = false := by decide
theorem test_wf_clear_one : Instr.wellFormed (.faultClear 0 [0, 0]) = false := by decide
theorem test_wf_clear_all : Instr.wellFormed (.faultClearAll 0 [7, 1]) = false := by decide
theorem test_wf_set_on : Instr.wellFormed (.measureSetOn 0 [0, 0, 0]) = false := by decide
theorem test_wf_set_off : Instr.wellFormed (.measureSetOff 0 [1, 0, 0]) = false := by decide
theorem test_wf_status_read : Instr.wellFormed (.linkStatusRead 0 [1]) = false := by decide
theorem test_wf_status_zero : Instr.wellFormed (.linkStatusReadAndZero 0 [0]) = false := by decide
theorem test_wf_unknown : Instr.wellFormed (.unknownRequest 0x20 0 []) = false := by decide
theorem test_wf_no_characters : Instr.wellFormed (.frameReceived []) = false := by decide
theorem test_wf_noise_marker : Instr.wellFormed (.noise 0xA7) = false := by decide

/-! ### Worked examples -/

/-- 10 Worked sequence: a stuffed request on the wire. -/
theorem test_stuffed_request : wire ⟨0x0C, 0xA7, [0xA5]⟩ = [0xA7, 0x03, 0x0C, 0xA5, 0x87, 0xA5, 0x85, 0x0B, 0xDB] := by
  decide +kernel
theorem test_crc_steps : [crcByte 0xFFFF 0x03, crcByte 0xD193 0x0C, crcByte 0x89D0 0xA7, crcByte 0x15AC 0xA5] =
    [0xD193, 0x89D0, 0x15AC, 0x0BDB] := by decide +kernel
theorem test_stuffed_request_received :
    ran (.frameReceived ([0xA7, 0x03, 0x0C, 0xA5, 0x87, 0xA5, 0x85, 0x0B, 0xDB].map .byte)) State.reset
      (fun t => t.lnk.requests = [⟨0x0C, 0xA7, [0xA5]⟩]) = true := by decide +kernel
/-- The same, with the tag sent unstuffed: ABORTED, and the frame that follows stays open. -/
theorem test_unstuffed_tag_aborts :
    ran (.frameReceived ([0xA7, 0x03, 0x0C, 0xA7, 0xA5, 0x85, 0x0B, 0xDB].map .byte)) State.reset
      (fun t => t.lnk.requests = [] ∧ t.lnk.counters.aborted = 1 ∧ t.lnk.rx.state = .body ∧ t.lnk.rx.expected = 163) =
      true := by decide +kernel

/-- 02 Case A: S1 to S2. -/
theorem test_timetable_case_a : (timetableFor (running 40000) (.stage 1 2)).map (fun e => (e.offset, e.group, e.state)) =
    [(0, 0, .amber), (0, 2, .red), (30, 0, .red), (70, 1, .redAmber), (90, 1, .green)] := by decide +kernel
/-- 02 Case B: S2 to S1. -/
theorem test_timetable_case_b :
    (timetableFor { running 40000 with seq := { (running 40000).seq with current := some 1 } } (.stage 0 0)).map
      (fun e => (e.offset, e.group, e.state)) =
    [(0, 1, .amber), (30, 1, .red), (40, 0, .redAmber), (60, 0, .green), (70, 2, .green)] := by decide +kernel
/-- 02 Case C: the remaining intergreen, 73 after G4's end of green. -/
theorem test_timetable_case_c :
    (timetableFor { running 40000 with seq := { (running 40000).seq with
        current := some 1, leg := tab 16 none [(4, some ⟨0, 7300⟩)] } } (.stage 0 0)).map
      (fun e => (e.offset, e.group, e.state)) =
    [(0, 1, .amber), (30, 1, .red), (57, 0, .redAmber), (70, 2, .green), (77, 0, .green)] := by decide +kernel

/-- R50, R159: the change to the empty target lists the red of the group that both stages hold, and the test in flight
on it is abandoned. -/
theorem test_recomputation_abandons :
    let s : State := { running 40000 with
      seq := { (running 40000).seq with state := .commit, current := some 2, target := .stage 1 2 }
      cbl := { test := some { circuit := redOf 1 } } }
    (seqAllRed s).cbl.test = none ∧ (seqAllRed s).seq.switchOn.get (redOf 1) = true ∧
    ((seqAllRed s).cbl.cable.get (redOf 1)).abandons = 1 := by decide +kernel

/-- 01 Worked example: the first refusal, check 1 with subject (G1, G2), where G2's row omits G1. -/
theorem test_first_refusal :
    failedCheck { junction with conflict := junction.conflict.set 1 (nums 16 [3]) } = some (1, 1, 2) := by decide +kernel
/-- The second, check 2 with subject (G3, G2). -/
theorem test_second_refusal :
    failedCheck { junction with intergreen := junction.intergreen.set 2 (tab 16 0 [(2, 70)]) } = some (2, 3, 2) := by
  decide +kernel
/-- The third acceptance passes, also with G4 added (02 2.6). -/
theorem test_acceptance_passes : failedCheck junction = none := by decide +kernel

/-- 02 2.6: the plan passes the checks of PLAN-CLOSE. -/
theorem test_plan_passes : closeError (running 0) (planAt (running 0) 0) = none := by decide +kernel

/-- C1's section after each of these readings, its count unchanged (07 Worked sequence). -/
def lampAfter (s : State) (c : Circuit) (x : Lamp) (l : List Nat) : Lamp :=
  l.foldl (fun x r => x.evaluated s c 0 r) x

/-- Supply 2185, offset 12. -/
def measuring : State := { running 0 with mea := { s := 2185, supply := .normal, measured := 12 } }

def litRed : Lamp := { state := .proven, p := 265, avg := some 530, e := some 2, k := 2, evalCount := some 0, proof := true }

/-- 07 One filament red lamp fails: the reading before, evaluation 4, evaluation 5. -/
theorem test_lamp_first_fails :
    ([[521], [521, 270, 270, 270, 270], [521, 270, 270, 270, 270, 270]].map fun l =>
      let x := lampAfter measuring 0 litRed l
      (x.avg, x.e, x.downRun, x.k, x.state, x.proof)) =
    [(some 532, some 2, 0, 2, .proven, true), (some 355, some 1, 2, 2, .proven, true),
      (some 334, some 1, 0, 1, .degraded, true)] := by decide +kernel
/-- Then the other: evaluations 9 and 11. -/
theorem test_lamp_second_fails :
    ([3, 5].map fun n =>
      let x := lampAfter measuring 0 { litRed with avg := some 334, e := some 1, k := 1, state := .degraded, degraded := true }
        (List.replicate (n + 1) 14)
      ((x.avg, x.k, x.state), [x.proof, x.redOut, x.degraded, x.out])) =
    [((some 107, 1, .degraded), [false, false, true, false]), ((some 61, 0, .out), [false, true, false, false])] := by
  decide +kernel
/-- 07 An LED amber learns its reference: five evaluations in one closing, then three in the next. -/
theorem test_lamp_learns :
    let x := lampAfter measuring 4 { state := .learning, k := 2 } [48, 50, 49, 49, 50]
    let y := [51, 49, 48].foldl (fun x r => x.evaluated measuring 4 2 r) x
    (x.avg, x.learn, x.k, x.state) = (some 37, 5, 2, .learning) ∧
    (y.p, y.learn, y.k, y.state) = (19, 0, 2, .proven) := by decide +kernel

/-- 06 A supply sag and its recovery, the readings from 200 to 3200. -/
theorem test_supply_sag :
    let sag := fun l => List.foldl (fun m r => m.supplyReading 2300 r) ({ s := 2290, supply := .normal, supNormal := 10 } : Mea) l
    let x := sag [1700, 1100, 900]
    let y := sag [1700, 1100, 900, 1000]
    let z := sag ([1700, 1100, 900, 1000, 1900, 1800] ++ List.replicate 9 2250)
    let w := sag ([1700, 1100, 900, 1000, 1900, 1800] ++ List.replicate 10 2250)
    (x.supply, x.supAbsent, x.lossCond) = (.absent, 2, false) ∧ (y.supAbsent, y.lossCond) = (3, true) ∧
    (z.supply, z.supNormal, z.lossCond) = (.normal, 9, true) ∧ (w.supNormal, w.lossCond) = (10, false) := by
  decide +kernel

/-- 08 Worked judgements, a wet duct: tests 2, 4 and 7 of C18. -/
theorem test_wet_duct :
    let s : State := { jds := { junction with circuit := junction.circuit.set 17 { fitted := true, loopCheck := .on } } }
    let rows : List (Nat × Option Nat × Nat × Nat) := [(40, none, 52, 120), (610, some 30, 53, 180), (60, none, 51, 730),
      (55, none, 52, 810), (50, none, 50, 300), (45, none, 51, 210), (40, none, 52, 190)]
    let after := fun n => (rows.take n).foldl (fun (x : Cable) r =>
      x.completed s { circuit := 17, vo := r.1, vl := r.2.1, loop := some r.2.2.1 } r.2.2.2 500) {}
    let seen := fun n => ([(after n).openRun.pass, (after n).insulationRun.fail, (after n).insulationRun.pass],
      (after n).induced, (after n).baseline, (after n).state)
    seen 2 = ([2, 0, 2], true, 52, .healthy) ∧ seen 3 = ([3, 1, 0], false, 52, .suspect) ∧
    seen 4 = ([3, 2, 0], false, 52, .faulty) ∧ seen 6 = ([3, 0, 2], false, 52, .faulty) ∧
    seen 7 = ([3, 0, 3], false, 52, .healthy) := by decide +kernel

/-- 06 Four slots: at 4 the proof request goes first, at 14 DIAG goes ahead of CBL. -/
def slots (proof diag : SlotContent) : State :=
  { running 0 with mea := { ({} : Mea) with
    proof := proof, diag := diag, cbl := .waiting ⟨.voltage 19, 0, false⟩, lastCbl := false
    dueSupply := false, dueRef := false, dueOffset := false, conv := some ⟨.routine, 0, 10000, 10000⟩
    routine := .converting ⟨.current 2, 0, false⟩ } }
theorem test_proof_granted_first :
    ran (.conversionComplete 100) (slots (.waiting ⟨.current 0, 17, false⟩) (.waiting ⟨.supply, 0, false⟩))
      (fun t => t.mea.conv.map (·.slot) = some .proof) = true := by decide +kernel
theorem test_diag_before_cable :
    ran (.conversionComplete 100) (slots .empty (.waiting ⟨.supply, 0, false⟩))
      (fun t => t.mea.conv.map (·.slot) = some .diag) = true := by decide +kernel

/-! ### Commands that meet no condition change nothing (log 1) -/

theorem test_not_due_gap : ran .gapExpiry (running 400) (fun t => decide (t = running 400)) = true := by decide +kernel
theorem test_no_request_taken : ran (.hold 7 []) (running 0) (fun t => decide (t = running 0)) = true := by decide +kernel
/-- R203: HOLD is answered with its tag. -/
theorem test_hold_reply : ran (.hold 7 []) (ask 0x1C 7 [] (running 0))
    (fun t => t.lnk.replies = [⟨0x9C, 7, [0, 0, 0, 0, 0, 0]⟩] ∧ t.lnk.requests = [] ∧ t.flt.mode = .hold) = true := by
  decide +kernel
/-- R192: a body of the wrong length. -/
theorem test_bad_length : ran (.hold 7 [1]) (ask 0x1C 7 [1] (running 0))
    (fun t => t.lnk.replies = [⟨0x9C, 7, [2, 2, 0, 0, 0, 0]⟩] ∧ t.flt.mode = .run) = true := by decide +kernel
/-- 01 Worked example: the first refusal on the wire, check 1 with subject (G1, G2). -/
theorem test_accept_refused :
    ran (.junctionAccept 1 []) (ask 0x03 1 []
        { jds := { junction with desc := .editing, conflict := junction.conflict.set 1 (nums 16 [3]) } })
      (fun t => t.lnk.replies = [⟨0x83, 1, [2, 4, 0, 1, 1, 2]⟩] ∧ t.jds.desc = .editing) = true := by decide +kernel
/-- The third acceptance: C1 UNPROVEN with p 265, C2 LEARNING, C8 not evaluated, the mode DARK. -/
theorem test_accepted :
    ran (.junctionAccept 1 []) (ask 0x03 1 [] { jds := { junction with desc := .editing } })
      (fun t => t.jds.desc = .accepted ∧ t.flt.mode = .dark ∧ (lampOf t 0).p = 265 ∧ (lampOf t 0).state = .unproven ∧
        (lampOf t 1).state = .learning ∧ (lampOf t 1).k = 2 ∧ (lampOf t 7).k = 0) = true := by decide +kernel
theorem test_word_spells_nothing : decodeTableWord 0 0 = none := rfl

/-! ### Witnesses: for each statement with hypotheses, states and operands that meet them -/

/-- The invariants of `Obligations.StepKeepsQueuesListAndOutput` and its two companions, all at once. -/
def full : State :=
  let f : Frame := ⟨0x1C, 1, []⟩
  let r : Report := ⟨.mode, true, 0, .none, 0, []⟩
  let e : FEntry := ⟨.conflict, .group 0, .active, 0, 0, 1⟩
  { dark with
    lnk := { ({} : Lnk) with
      requests := List.replicate 4 f, replies := List.replicate 4 f, reports := List.replicate 32 r }
    flt := { dark.flt with output := true, list := List.replicate 32 e } }

theorem witness_StepRunsFrontCommand : ({ State.reset with pending := [.noise 0, .gapTimeout] } : State).pending =
    .noise 0 :: [.gapTimeout] := rfl
theorem witness_IdleStepIsOneMillisecond : State.reset.pending = [] := rfl
theorem witness_StepKeepsQueuesListAndOutput : Sound full ∧ ∃ t, step { full with pending := [.hold 1 []] } = .next t :=
  ⟨by unfold Sound QueuesBounded ListBounded OutputFollows; decide +kernel, _, rfl⟩
theorem witness_StepKeepsDarkFaultsDark :
    ModePaired full ∧ DarkFaultsDark full ∧ ∃ t, step { full with pending := [.goDark 1 []] } = .next t :=
  ⟨by unfold ModePaired; decide +kernel, by unfold DarkFaultsDark; decide +kernel, _, rfl⟩

/-- G1's green relay CLOSED in RUN, G2's green OPEN. -/
def greenOn : State :=
  { running 5000 with osw := { (running 0).osw with
    relay := tab 48 {} [(3, { coil := { commanded := true, state := .closed, feedback := true, raw := true } })]
    stored := (running 0).seq.commanded } }
theorem witness_StepKeepsConflictingGreensApart :
    CoilsPaired greenOn ∧ ConflictsMutual greenOn ∧ GreensApart greenOn ∧ (relayAt greenOn (greenOf 0)).coil.commanded = true ∧
    ∃ t, step { greenOn with pending := [.gapExpiry] } = .next t :=
  ⟨by unfold CoilsPaired; decide +kernel, by unfold ConflictsMutual; decide +kernel,
    by unfold GreensApart; decide +kernel, by decide +kernel, _, rfl⟩
theorem witness_StepKeepsPlanInForceValid :
    PlansValid (running 0) ∧ (running 0).plans.inForce = some 0 ∧
    ∃ t, step { running 0 with pending := [.hold 1 []] } = .next t :=
  ⟨by unfold PlansValid; decide +kernel, rfl, _, rfl⟩
theorem witness_DescriptionChanges : ran (.hold 7 []) (ask 0x1C 7 [] (running 0)) (fun t => decide (t.jds = junction)) = true := by
  decide +kernel
theorem witness_UnconfiguredEntered : dark.flt.mode = .dark ∧
    ran (.junctionOpen 7 []) (ask 0x01 7 [] dark) (fun t => t.flt.mode = .unconfigured) = true := by decide +kernel
theorem witness_UnconfiguredLeft :
    ran (.junctionAccept 1 []) (ask 0x03 1 [] { jds := { junction with desc := .editing } })
      (fun t => t.flt.mode ≠ .unconfigured) = true ∧
    ModePaired (ask 0x03 1 [] { jds := { junction with desc := .editing } }) := by
  unfold ModePaired; decide +kernel
theorem witness_HoldEntered : ran (.hold 7 []) (ask 0x1C 7 [] (running 0)) (fun t => t.flt.mode = .hold) = true := by
  decide +kernel

theorem witness_TakenRequestGetsOneReply :
    let i : Instr := .unknownRequest 0xFF 9 []
    let s := ask 0xFF 9 [] full
    let u : State := { s with lnk := { s.lnk with replies := List.replicate 3 ⟨0x9C, 1, []⟩ } }
    let v : State := { u with lnk := { u.lnk with handling := some ⟨0xFF, 9, []⟩, requests := [⟨0x1C, 1, []⟩] } }
    i.WellFormed ∧ i.request? = some ⟨0xFF, 9, []⟩ ∧ u.lnk.requests.head? = some ⟨0xFF, 9, []⟩ ∧ u.lnk.replies.length < 4 ∧
    u.lnk.handling = none ∧ v.lnk.handling = some ⟨0xFF, 9, []⟩ ∧
    ran i v (fun t => t.lnk.requests = [⟨0x1C, 1, []⟩] && t.lnk.handling = none && t.lnk.replies.length = 4) = true := by
  unfold Instr.WellFormed; decide +kernel
theorem witness_WaitingRequestsChangeNothing :
    (Instr.hold 1 []).request? = some ⟨0x1C, 1, []⟩ ∧ 4 ≤ full.lnk.replies.length := by decide +kernel
theorem witness_RefusedRequestsChangeNothing :
    ran (.hold 1 []) (ask 0x1C 1 [] dark)
      (fun t => t.lnk.replies = dark.lnk.replies ++ [⟨0x9C, 1, (2 : Byte) :: [3, 0, 0, 0, 0]⟩]) = true := by decide +kernel

theorem witness_SentFrameIsReceived :
    (⟨0x0C, 0xA7, List.replicate 246 0xA5⟩ : Frame).body.length ≤ 246 ∧ State.reset.lnk.inBreak = false ∧
    State.reset.lnk.rx.state = .waitMarker ∧ State.reset.lnk.requests.length < 4 := by decide +kernel
theorem witness_LineInterruptions_gap :
    let s : State := { lnk := { rx := { state := .length }, idle := 4167 } }
    s.lnk.rx.state ≠ .waitMarker ∧ s.lnk.inBreak = false ∧ 40000000 < s.lnk.idle * s.lnk.rate.baud := by decide +kernel
theorem witness_LineInterruptions_break :
    ({ lnk := { inBreak := true } } : State).lnk.inBreak = true ∧ State.reset.lnk.inBreak = false := by decide
/-- R196: HOLD is being handled as the break ends; its effect stands, and its reply is the first of the fresh queue, the
requests behind it gone. With no room for its reply it was not taken, and is gone too. -/
theorem test_request_handled_at_break :
    let s : State := { running 0 with lnk := { ({} : Lnk) with
      inBreak := true, requests := [⟨0x1C, 7, []⟩, ⟨0x1B, 8, []⟩], replies := [⟨0x9F, 1, []⟩] } }
    let u : State := { s with lnk := { s.lnk with replies := List.replicate 4 ⟨0x9F, 1, []⟩ } }
    s.lnk.inBreak = true ∧ u.lnk.inBreak = true ∧
    ran .linkReset s (fun t => t.lnk.handling = some ⟨0x1C, 7, []⟩ && t.lnk.requests = [] && t.lnk.replies = [] &&
      ran (.hold 7 []) t fun r => r.flt.mode = .hold && r.lnk.replies.map (·.tag) = [7] && r.lnk.handling = none) = true ∧
    ran .linkReset u (fun t => t.lnk.handling = none && t.lnk.requests = []) = true := by decide +kernel
theorem witness_LineInterruptions_noise : (0xA5 : Byte) ≠ 0xA7 ∧ State.reset.lnk.rx.state = .waitMarker := by decide
theorem witness_LineInterruptions_overrun :
    full.lnk.inBreak = false ∧ full.lnk.rx.state = .waitMarker ∧ 4 ≤ full.lnk.requests.length := by decide +kernel
theorem witness_LineInterruptions_aborted :
    let s : State := { lnk := { rx := { state := .body } } }
    s.lnk.inBreak = false ∧ s.lnk.rx.state ≠ .waitMarker ∧
    ran (.frameReceived [.byte 0xA7]) s (fun t => t.lnk.counters.aborted = 1 ∧ t.lnk.rx.state = .length) = true := by
  decide +kernel
/-- FORMAT: a framing error, a length of 1 or 249, and an escape before neither 87h nor 85h. -/
theorem witness_LineInterruptions_format :
    let s : State := { lnk := { rx := { state := .length } } }
    let u : State := { lnk := { rx := { state := .body, escape := true } } }
    s.lnk.inBreak = false ∧ (1 : Byte).toNat < 2 ∧ 248 < (249 : Byte).toNat ∧ s.lnk.rx.escape = false ∧
    u.lnk.rx.state ≠ .waitMarker ∧ (0 : Byte) ≠ 0xA7 ∧ (0 : Byte) ≠ 0x87 ∧ (0 : Byte) ≠ 0x85 ∧
    (([(s, .framingError), (s, .byte 1), (s, .byte 249), (u, .byte 0)] : List (State × RxChar)).all fun (s, x) =>
      ran (.frameReceived [x]) s fun t => t.lnk.counters.format = 1) = true ∧
    ran (.frameReceived [.byte 2]) s (fun t => t.lnk.counters.format = 0) = true ∧
    ran (.frameReceived [.byte 248]) s (fun t => t.lnk.counters.format = 0) = true := by decide +kernel
/-- The stuffed request of chapter 10 with the last byte of its CRC off by one. -/
theorem witness_LineInterruptions_check :
    [(0x0B : Byte), 0xDA] ≠ be16 (crc [0x03, 0x0C, 0xA7, 0xA5]).toNat ∧
    ran (.frameReceived ([0xA7, 0x03, 0x0C, 0xA5, 0x87, 0xA5, 0x85, 0x0B, 0xDA].map .byte)) State.reset
      (fun t => t.lnk.counters.check = 1 ∧ t.lnk.requests = []) = true := by decide +kernel
theorem witness_TransmitterChoosesRepliesFirst :
    let x : Sending := ⟨true, wire ⟨0x9C, 1, []⟩, 6250⟩
    let s : State := { lnk := { tx := some x } }
    s.lnk.tx = some x ∧ x.wire.length * 10000000 ≤ x.elapsed * s.lnk.rate.baud ∧
    ∃ y : Sending, y.isReply = false := ⟨by decide +kernel, by decide +kernel, ⟨false, [], 0⟩, rfl⟩
/-- A full queue whose first, being sent, is ROUTINE, and whose second is ROUTINE too. -/
def crowded : Lnk :=
  let a : Report := ⟨.learnDone, false, 0, .none, 0, []⟩
  let b : Report := ⟨.mode, true, 0, .none, 0, []⟩
  { reports := a :: a :: List.replicate 30 b, tx := some ⟨false, [], 0⟩, kinds := Tab.const 10 true }
theorem witness_ReportAdmission_replaces :
    32 ≤ crowded.reports.length ∧ (∃ pre r rest, crowded.reports = pre ++ r :: rest ∧ r.alarm = false ∧
      crowded.sendingReport ≤ pre.length ∧ ∀ x ∈ pre.drop crowded.sendingReport, x.alarm = true) :=
  ⟨by decide +kernel, [⟨.learnDone, false, 0, .none, 0, []⟩], ⟨.learnDone, false, 0, .none, 0, []⟩,
    List.replicate 30 ⟨.mode, true, 0, .none, 0, []⟩, rfl, rfl, by decide +kernel, by decide +kernel⟩
theorem witness_ReportAdmission_not_enabled :
    ReportKind.stageChange.flag = some 1 ∧ State.reset.lnk.kinds.get 1 = false ∧ State.reset.lnk.reports.length < 32 := by
  decide +kernel
theorem witness_ReportAdmission_lost :
    32 ≤ full.lnk.reports.length ∧ ∀ x ∈ full.lnk.reports.drop full.lnk.sendingReport, x.alarm = true := by decide +kernel
theorem witness_LinkRequests :
    takes (ask 0x34 1 (flagByte true :: setBytes (nums 10 [1, 10])) dark) 0x34 1 (flagByte true :: setBytes (nums 10 [1, 10])) = true ∧
    takes (ask 0x35 1 [0] dark) 0x35 1 [0] = true ∧ takes (ask 0x35 1 [1] dark) 0x35 1 [1] = true ∧
    takes (ask 0x07 1 [] dark) 0x07 1 [] = true := by decide +kernel
/-- What a request of `i` with this body answers in `s`: the bodies of the replies. -/
def answers (i : Byte → List Byte → Instr) (kind : Byte) (body : List Byte) (s : State) : List (List Byte) :=
  match exec (i 1 body) (ask kind 1 body s) with
  | .next t => t.lnk.replies.map (·.body)
  | _ => []
theorem witness_LinkRequests_refused :
    takes (ask 0x34 1 [1, 4, 0] dark) 0x34 1 [1, 4, 0] = true ∧ 1024 ≤ 256 * (4 : Byte).toNat + (0 : Byte).toNat ∧
    takes (ask 0x35 1 [2] dark) 0x35 1 [2] = true ∧ (2 : Byte) ≠ 0 ∧ (2 : Byte) ≠ 1 ∧
    answers .reportControl 0x34 [1, 4, 0] dark = [[2, 4, 0, 2, 0, 0]] ∧
    answers .reportControl 0x34 [1, 3, 255] dark = [[0, 0, 0, 0, 0, 0]] ∧
    answers .linkStatusRead 0x35 [2] dark = [[2, 4, 0, 1, 0, 0]] := by decide +kernel

theorem witness_JunctionOpenTable :
    takes (ask 0x01 1 [] dark) 0x01 1 [] = true ∧ dark.flt.inbox = [] ∧ dark.flt.mode = .dark ∧
    State.reset.flt.mode = .unconfigured ∧ takes (ask 0x01 1 [] (running 0)) 0x01 1 [] = true ∧
    (running 0).flt.mode ≠ .dark ∧ (running 0).flt.mode ≠ .unconfigured := by decide +kernel
/-- A cable test in flight with the injector connected, DARK. -/
theorem witness_JunctionOpenTable_test :
    let s : State := { dark with cbl := { test := some { circuit := 0 }, pos := .on 0 .load } }
    s.cbl.test ≠ none ∧ s.cbl.pos = .on 0 .load ∧ s.flt.mode = .dark := by decide +kernel
/-- R4, R160, R168: that test is abandoned, which counts; the report goes from DARK to UNCONFIGURED, and there is none
where the mode was UNCONFIGURED already. -/
theorem witness_JunctionOpenTable_mode :
    let s : State := { dark with cbl := { test := some { circuit := 0 }, pos := .on 0 .load } }
    let modes := fun (t : State) => (t.lnk.reports.filter fun r => r.kind = .mode).map (·.fields)
    ran (.junctionOpen 1 []) (ask 0x01 1 [] s) (fun t => (t.cbl.cable.get 0).abandons = 1 &&
      (t.cbl.cable.get 1).abandons = 0 && modes t = [[1, 0, 1, 1]]) = true ∧
    ran (.junctionOpen 1 []) (ask 0x01 1 [] { s with flt := { s.flt with mode := .unconfigured } }) (fun t =>
      (t.cbl.cable.get 0).abandons = 1 && modes t = []) = true := by decide +kernel

/-- A description open for edits. -/
def editing : State := { jds := { junction with desc := .editing } }
theorem witness_JunctionWrite_group :
    let r : GroupRec := { kind := .pedestrian, amber := 50, redAmber := 30, clearance := 250, floor := 300, redFloor := 4 }
    takes (ask 0x02 1 (1 :: number (15 : Group) :: r.bytes) editing) 0x02 1 (1 :: number (15 : Group) :: r.bytes) = true ∧
    editing.jds.desc = .editing ∧ 20 ≤ r.amber ∧ r.amber ≤ 50 ∧ r.redAmber ≤ 30 ∧ r.clearance ≤ 250 ∧ 40 ≤ r.floor ∧
    r.floor ≤ 300 ∧ 1 ≤ r.redFloor ∧ r.redFloor ≤ 4 := by decide +kernel
theorem witness_JunctionWrite_circuit :
    let r : CircuitRec := { lamps := 4, reference := 4095, baseline := 4095, leakLimit := 4000, testPeriod := 255 }
    takes (ask 0x02 1 (2 :: number (47 : Circuit) :: r.bytes) editing) 0x02 1 (2 :: number (47 : Circuit) :: r.bytes) = true ∧
    1 ≤ r.lamps ∧ r.lamps ≤ 4 ∧ r.reference ≤ 4095 ∧ r.baseline ≤ 4095 ∧ 50 ≤ r.leakLimit ∧ r.leakLimit ≤ 4000 ∧
    r.testPeriod ≤ 255 := by decide +kernel
theorem witness_JunctionWrite_rows :
    let row := nums 16 [1, 16]
    let igs := tab 16 0 [(16, 250)]
    takes (ask 0x02 1 (3 :: number (0 : Group) :: setBytes row) editing) 0x02 1 (3 :: number (0 : Group) :: setBytes row) = true ∧
    takes (ask 0x02 1 (4 :: number (0 : Group) :: igs.list.map b8) editing) 0x02 1
      (4 :: number (0 : Group) :: igs.list.map b8) = true ∧ (∀ n, igs.get n ≤ 250) ∧
    takes (ask 0x02 1 (5 :: number (11 : Stage) :: setBytes row) editing) 0x02 1
      (5 :: number (11 : Stage) :: setBytes row) = true := by decide +kernel
theorem witness_JunctionWrite_detector :
    let r : DetRec := { kind := .push, debounce := 255, stuckLimit := 60, silentLimit := 240 }
    takes (ask 0x02 1 (6 :: number (23 : Detector) :: r.bytes) editing) 0x02 1 (6 :: number (23 : Detector) :: r.bytes) = true ∧
    r.debounce ≤ 255 ∧ 1 ≤ r.stuckLimit ∧ r.stuckLimit ≤ 60 ∧ 1 ≤ r.silentLimit ∧ r.silentLimit ≤ 240 ∧
    (r.kind = .push → r.extend = Tab.const 12 false) := by decide +kernel
theorem witness_JunctionWrite_timing :
    let r : TimingRec := {
      mains := 60, nominal := 2600, startUpAllRed := 200, commitLead := 10, redProofLimit := 50
      pullIn := 200, dropOut := 200, deadTime := 100, foreignOpen := 2500, foreignLoaded := 2500 }
    takes (ask 0x02 1 (7 :: 0 :: r.bytes) editing) 0x02 1 (7 :: 0 :: r.bytes) = true ∧
    (r.mains = 50 ∨ r.mains = 60) ∧ 1000 ≤ r.nominal ∧ r.nominal ≤ 2600 ∧ 30 ≤ r.startUpAllRed ∧ r.startUpAllRed ≤ 200 ∧
    2 ≤ r.commitLead ∧ r.commitLead ≤ 10 ∧ 5 ≤ r.redProofLimit ∧ r.redProofLimit ≤ 50 ∧ 10 ≤ r.pullIn ∧ r.pullIn ≤ 200 ∧
    10 ≤ r.dropOut ∧ r.dropOut ≤ 200 ∧ r.deadTime ≤ 100 ∧ 100 ≤ r.foreignOpen ∧ r.foreignOpen ≤ 2500 ∧
    50 ≤ r.foreignLoaded ∧ r.foreignLoaded ≤ r.foreignOpen := by decide +kernel
theorem witness_JunctionWrite_response :
    let body := [8, 0, b8 (responsePairs.get 13).1.code, (responsePairs.get 13).2.code, Response.dark.code]
    takes (ask 0x02 1 body editing) 0x02 1 body = true ∧
    takes (ask 0x02 1 body dark) 0x02 1 body = true ∧ junctionWriteFits body = true ∧ dark.jds.desc ≠ .editing := by
  decide +kernel
/-- What a JUNCTION-WRITE of this body answers in EDITING. -/
def wrote (body : List Byte) : List (List Byte) :=
  match exec (.junctionWrite 1 body) (ask 0x02 1 body editing) with
  | .next t => t.lnk.replies.map (·.body)
  | _ => []
/-- Refusals at the ends of the ranges: an unknown kind, an index, and in each record the first field out. -/
theorem witness_JunctionWrite_bad_fields :
    let g : List Byte := [0, 20, 0, 0, 0, 39, 1]
    let c : List Byte := [0, 0, 1, 0, 0, 0, 0, 0, 0, 49, 1]
    let i : List Byte := (0 : Byte) :: 251 :: List.replicate 14 251
    FirstOut [(3, byteAt g 0 ≤ 2), (4, 20 ≤ byteAt g 1 ∧ byteAt g 1 ≤ 50), (5, byteAt g 2 ≤ 30), (6, byteAt g 3 ≤ 250),
      (7, 40 ≤ wordAt g 4 ∧ wordAt g 4 ≤ 300), (8, 1 ≤ byteAt g 6 ∧ byteAt g 6 ≤ 4)] 7 ∧
    FirstOut [(3, byteAt c 0 ≤ 1), (4, byteAt c 1 ≤ 1), (5, 1 ≤ byteAt c 2 ∧ byteAt c 2 ≤ 4), (6, wordAt c 3 ≤ 4095),
      (7, byteAt c 5 ≤ 2), (8, wordAt c 6 ≤ 4095), (9, 50 ≤ wordAt c 8 ∧ wordAt c 8 ≤ 4000)] 9 ∧
    250 < byteAt i (1 : Group).val ∧ (∀ m : Group, m < 1 → byteAt i m.val ≤ 250) ∧
    ([1 :: 1 :: g, 2 :: 48 :: c, 4 :: 16 :: i, [9, 1, 0, 0, 0], 1 :: 17 :: g, 1 :: 0 :: g,
        7 :: 1 :: List.replicate 13 0].map fun b =>
      (takes (ask 0x02 1 b editing) 0x02 1 b, junctionWriteFits b, wrote b)) =
    [7, 9, 4, 1, 2, 2, 2].map fun n => (true, true, [[2, 4, 0, n, 0, 0]]) := by
  refine ⟨?_, ?_, by decide +kernel, by decide +kernel, by decide +kernel⟩ <;>
    simp [FirstOut, byteAt, wordAt]
theorem witness_JunctionWrite_bad_detector_and_timing :
    let d : List Byte := [2, 30, 0, 0, 0, 1, 5, 60]
    let f : List Byte := [50, 8, 252, 60, 3, 20, 60, 60, 30, 0, 100, 0, 101]
    FirstOut [(3, byteAt d 0 ≤ 2), (5, wordAt d 2 < 4096), (6, wordAt d 4 < 4096 ∧ (byteAt d 0 = 2 → wordAt d 4 = 0)),
      (7, 1 ≤ byteAt d 6 ∧ byteAt d 6 ≤ 60), (8, 1 ≤ byteAt d 7 ∧ byteAt d 7 ≤ 240)] 6 ∧
    FirstOut [(3, byteAt f 0 = 50 ∨ byteAt f 0 = 60), (4, 1000 ≤ wordAt f 1 ∧ wordAt f 1 ≤ 2600),
      (5, 30 ≤ byteAt f 3 ∧ byteAt f 3 ≤ 200), (6, 2 ≤ byteAt f 4 ∧ byteAt f 4 ≤ 10),
      (7, 5 ≤ byteAt f 5 ∧ byteAt f 5 ≤ 50), (8, 10 ≤ byteAt f 6 ∧ byteAt f 6 ≤ 200),
      (9, 10 ≤ byteAt f 7 ∧ byteAt f 7 ≤ 200), (10, byteAt f 8 ≤ 100), (11, 100 ≤ wordAt f 9 ∧ wordAt f 9 ≤ 2500),
      (12, 50 ≤ wordAt f 11 ∧ wordAt f 11 ≤ 2500 ∧ wordAt f 11 ≤ wordAt f 9)] 12 ∧
    ([6 :: 24 :: d, 7 :: 0 :: f].map fun b => (takes (ask 0x02 1 b editing) 0x02 1 b, wrote b)) =
    [6, 12].map fun n => (true, [[2, 4, 0, n, 0, 0]]) := by
  refine ⟨?_, ?_, by decide +kernel⟩ <;> simp [FirstOut, byteAt, wordAt]
/-- R12: kind 23, colour 4, CONFLICT (fixed) with any colour, RELAY-FAIL-CLOSED of a green (fixed), LAMP-OUT of a red (a
pair of no row), response 3 of a listed pair. -/
theorem witness_JunctionWrite_bad_response :
    let r := responsePairs.get 0
    ([[8, 0, 23, 1, 1], [8, 0, 10, 4, 1], [8, 0, b8 FaultKind.conflict.code, 0, 1],
        [8, 0, b8 FaultKind.relayFailClosed.code, Colour.green.code, 1],
        [8, 0, b8 FaultKind.lampOut.code, Colour.red.code, 1], [8, 0, b8 r.1.code, r.2.code, 3]].map fun b =>
      (takes (ask 0x02 1 b editing) 0x02 1 b, (wrote b).map (·.take 4))) =
    [(true, [[2, 4, 0, 3]]), (true, [[2, 4, 0, 4]]), (true, [[2, 12, 0, 0]]), (true, [[2, 12, 0, 0]]), (true, [[2, 4, 0, 4]]),
      (true, [[2, 4, 0, 5]])] := by decide +kernel
theorem witness_JunctionAcceptTaken :
    takes (ask 0x03 1 [] editing) 0x03 1 [] = true ∧ editing.jds.desc = .editing ∧ failedCheck editing.jds = none ∧
    editing.flt.inbox = [] ∧ editing.osw.phase = .outputsOff ∧
    failedCheck { junction with desc := .editing, stage := Tab.const 12 (Tab.const 16 false) } ≠ none ∧
    dark.jds.desc ≠ .editing := by decide +kernel
theorem witness_AcceptedConflictsAndIntergreens :
    failedCheck junction = none ∧ junction.conflicts 2 1 = true ∧ (junction.group.get 2).kind = .pedestrian := by
  decide +kernel
theorem witness_ReadsReturnAndChangeNothing :
    takes (ask 0x04 1 [1, 16] dark) 0x04 1 [1, 16] = true ∧ (recordBytes 1 16 junction).isSome = true ∧
    recordBytes 1 17 junction = none ∧ takes (ask 0x0B 1 [number (3 : Slot)] dark) 0x0B 1 [number (3 : Slot)] = true ∧
    takes (ask 0x0E 1 [] dark) 0x0E 1 [] = true ∧ takes (ask 0x10 1 [] dark) 0x10 1 [] = true ∧ dark.plans.clock = none ∧
    takes (ask 0x20 1 [] dark) 0x20 1 [] = true ∧
    takes (ask 0x28 1 [number (47 : Circuit)] dark) 0x28 1 [number (47 : Circuit)] = true ∧
    takes (ask 0x30 1 [number (31 : Fin 32)] dark) 0x30 1 [number (31 : Fin 32)] = true ∧
    takes (ask 0x33 1 [] dark) 0x33 1 [] = true := by decide +kernel
theorem witness_Reads_refused :
    ([[0, 1], [9, 1], [1, 0], [1, 17], [2, 49], [3, 17], [4, 17], [5, 13], [6, 25], [8, 15], [7, 1]].map fun b =>
      (takes (ask 0x04 1 b dark) 0x04 1 b, answers .junctionRead 0x04 b dark)) =
    [1, 1, 2, 2, 2, 2, 2, 2, 2, 2, 2].map (fun n => (true, [[2, 4, 0, n, 0, 0]])) ∧
    [answers .planRead 0x0B [5] dark, answers .circuitRead 0x28 [49] dark, answers .faultListRead 0x30 [33] dark,
      answers .faultListRead 0x30 [0] dark] = List.replicate 4 [[2, 4, 0, 1, 0, 0]] ∧
    takes (ask 0x30 1 [] dark) 0x30 1 [] = true ∧ answers .faultListRead 0x30 [] dark = [[0, 0, 0, 0, 0, 0, 0, 0, 1]] := by
  decide +kernel
theorem witness_ReplyFieldsAreLaidOut :
    be16 65535 = [255, 255] ∧ setBytes (nums 16 [1, 16]) = [0x80, 1] ∧
    circuitSetBytes (nums 48 [1, 48]) = [0x80, 0, 0, 0, 0, 1] ∧ packByte [true, false, true] = 5 ∧
    ([(FaultKind.relayFailClosed, Colour.red)])[(0 : Fin 14).val]? = some (.relayFailClosed, .red) := by decide +kernel

/-- P2 open for edits. -/
def drafting : State := { dark with plans := { library with
  pendingPlan := some 0, slot := library.slot.set 1 { state := .editing } } }
theorem witness_PlanOpenTable :
    takes (ask 0x08 1 [5] dark) 0x08 1 [5] = true ∧ 4 < (5 : Byte).toNat ∧
    takes (ask 0x08 1 [number (0 : Slot)] dark) 0x08 1 [number (0 : Slot)] = true ∧ dark.plans.pendingPlan = some 0 ∧
    takes (ask 0x08 1 [number (3 : Slot)] drafting) 0x08 1 [number (3 : Slot)] = true ∧
    (planAt drafting 1).state = .editing := by decide +kernel
theorem witness_PlanWritesReplaceTheirPart :
    let h : List Byte := [number (1 : Slot), 1, 255, PlanMode.demand.code]
    let q : List Byte := number (1 : Slot) :: 2 :: b8 12 :: (List.replicate 12 (11 : Stage)).map fun k => number k
    let x : PlanEntry := { minGreen := 600, maxGreen := 1200, gap := 255, fixed := 1200 }
    let w : List Byte := number (1 : Slot) :: 3 :: number (11 : Entry) :: be16 x.minGreen ++ be16 x.maxGreen ++ [b8 x.gap] ++
      be16 x.fixed ++ [flagByte x.always]
    takes (ask 0x09 1 h drafting) 0x09 1 h = true ∧ takes (ask 0x09 1 q drafting) 0x09 1 q = true ∧
    takes (ask 0x09 1 w drafting) 0x09 1 w = true ∧ (planAt (ask 0x09 1 w drafting) 1).state = .editing := by decide +kernel
/-- R58, R59: a slot out of its range and one not EDITING, for each write; then each first field out of its range. -/
theorem witness_PlanWrites_refused :
    let t : List Byte := [0, 40, 0, 40, 5, 0, 40, 0]
    let f : List Byte := [2, 88, 4, 176, 4, 4, 176, 1]
    (([(.planWriteHeader, [1, 255, 1]), (.planWriteHeader, [4, 9]), (.planWriteSequence, [2, 1, 1]),
        (.planWriteEntryTiming, 3 :: 1 :: t)] : List ((Byte → List Byte → Instr) × List Byte)).all fun (i, b) =>
      takes (ask 0x09 1 (5 :: b) drafting) 0x09 1 (5 :: b) && answers i 0x09 (5 :: b) drafting = [[2, 4, 0, 1, 0, 0]] &&
      answers i 0x09 (1 :: b) drafting = [[2, 7, 0, 0, 0, 0]] && (planAt drafting 0).state ≠ .editing) = true ∧
    (([((.planWriteHeader, [2, 4, 9]), 2), ((.planWriteHeader, [2, 1, 0, 2]), 3), ((.planWriteHeader, [2, 1, 1, 2]), 4),
        ((.planWriteSequence, [2, 2, 0]), 3), ((.planWriteSequence, 2 :: 2 :: 13 :: List.replicate 13 0), 3),
        ((.planWriteSequence, [2, 2, 2, 12, 13]), 5), ((.planWriteEntryTiming, 2 :: 3 :: 13 :: t), 3),
        ((.planWriteEntryTiming, 2 :: 3 :: 12 :: f), 6)] :
          List (((Byte → List Byte → Instr) × List Byte) × Byte)).all fun ((i, b), n) =>
      takes (ask 0x09 1 b drafting) 0x09 1 b && answers i 0x09 b drafting = [[2, 4, 0, n, 0, 0]]) = true ∧
    FirstOut [(3, (1 : Byte) ≠ 0), (4, (2 : Byte).toNat ≤ 1)] 4 ∧
    FirstOut [(3, 1 ≤ (12 : Byte).toNat ∧ (12 : Byte).toNat ≤ 12), (4, 40 ≤ wordAt f 0 ∧ wordAt f 0 ≤ 600),
      (5, 40 ≤ wordAt f 2 ∧ wordAt f 2 ≤ 1200), (6, 5 ≤ byteAt f 4), (7, 40 ≤ wordAt f 5 ∧ wordAt f 5 ≤ 1200)] 6 := by
  refine ⟨by decide +kernel, by decide +kernel, ?_, ?_⟩ <;> simp [FirstOut, byteAt, wordAt]
theorem witness_PlanCloseValidates :
    takes (ask 0x0A 1 [number (1 : Slot)] drafting) 0x0A 1 [number (1 : Slot)] = true ∧
    (planAt drafting 1).state = .editing := by decide +kernel
/-- Each check of R60 in turn: what the close of P2 with these contents answers. -/
theorem witness_PlanClose_checks :
    let close := fun (j : Jds) (p : PlanSlot) =>
      let s : State := { drafting with jds := j, plans := { drafting.plans with slot := library.slot.set 1 { p with state := .editing } } }
      ((answers .planClose 0x0A [2] s).map (·.drop 6))
    let l : PlanSlot := { id := 1, length := 2, entries := tab 12 {} [(2, { stage := 1, minGreen := 80 })] }
    [close { junction with desc := .editing } l, close junction { l with id := 0 }, close junction { l with length := 0 },
      close junction { l with entries := Tab.const 12 {} }, close junction { l with length := 3 },
      close junction { l with entries := tab 12 {} [(2, { stage := 11 })] },
      close { junction with group := junction.group.set 2 { kind := .pedestrian, floor := 50 } } l, close junction l] =
    [[[3, 1, 0, 0]], [[3, 2, 0, 0]], [[3, 3, 0, 0]], [[3, 4, 1, 0]], [[3, 4, 3, 0]], [[3, 5, 2, 0]], [[3, 6, 1, 3]],
      [[2, 0, 0, 0]]] := by decide +kernel
/-- R60: the entry checks, in their order; a description state other than ACCEPTED fails check 1. -/
theorem test_close_errors :
    closeError dark { state := .editing } = some ⟨2, none, none⟩ ∧
    closeError dark { id := 1 } = some ⟨3, none, none⟩ ∧
    closeError dark { id := 1, length := 2 } = some ⟨4, some 0, none⟩ ∧
    closeError State.reset { id := 1, length := 1 } = some ⟨1, none, none⟩ := by decide +kernel
theorem witness_SelectionEvaluation :
    let s : State := { dark with plans := { library with override := some 0 } }
    let t : State := { dark with plans := { library with override := some 3 } }
    s.plans.override = some 0 ∧ (planAt s 0).state = .valid ∧
    (∀ p, t.plans.override = some p → ¬(planAt t p).state = .valid) ∧
    (∀ p, (scheduleChoice t).map (fun e => (t.plans.schedule.get e).slot) = some p → ¬(planAt t p).state = .valid) := by
  decide +kernel
/-- A schedule entry for day 7 at 23:59 naming P1, the clock at its moment. -/
theorem witness_SelectionEvaluation_schedule :
    let s : State := { dark with plans := { library with
      schedule := tab 16 {} [(16, ⟨true, nums 7 [7], 23, 59, 0⟩)], clock := some ⟨6, 23, 59, 0⟩ } }
    (∀ p, s.plans.override = some p → ¬(planAt s p).state = .valid) ∧
    (scheduleChoice s).map (fun e => (s.plans.schedule.get e).slot) = some 0 ∧ (planAt s 0).state = .valid := by
  decide +kernel
/-- R71: today's later start is taken only as last week's, and of equal starts the lower number; R72: the choice's slot is
not VALID. -/
theorem witness_SelectionEvaluation_choice :
    let s := fun (l : List (Nat × SchedEntry)) (h : Nat) => ({ dark with plans := { library with
      schedule := tab 16 {} l, clock := some ⟨6, h, 59, 0⟩ } } : State)
    let e : SchedEntry := ⟨true, nums 7 [7], 23, 59, 3⟩
    scheduleChoice dark = none ∧ scheduleChoice (s [(2, e)] 22) = some 1 ∧
    scheduleChoice (s [(2, e), (3, { e with days := nums 7 [1], hours := 0 })] 22) = some 2 ∧
    scheduleChoice (s [(2, e), (3, e)] 23) = some 1 ∧
    (scheduleChoice (s [(2, e)] 23)).map (fun x => (x, ((s [(2, e)] 23).plans.schedule.get x).slot)) = some (1, 3) ∧
    (s [(2, e)] 23).plans.lastChoice = none ∧ ¬(planAt (s [(2, e)] 23) 3).state = .valid ∧
    (evaluate (s [(2, e)] 23)).lnk.reports.map (·.kind) = [.powerUp, .planUnavailable] := by decide +kernel
theorem witness_SelectScheduleAndClock :
    let e : SchedEntry := ⟨true, nums 7 [1, 7], 23, 59, 3⟩
    let w := number (15 : SchedIx) :: e.bytes
    takes (ask 0x0C 1 [number? (some (3 : Slot))] dark) 0x0C 1 [number? (some (3 : Slot))] = true ∧
    takes (ask 0x0D 1 w dark) 0x0D 1 w = true ∧ e.hours ≤ 23 ∧ e.minutes ≤ 59 ∧
    takes (ask 0x0F 1 [number (6 : Fin 7), b8 23, b8 59, b8 59] dark) 0x0F 1 [number (6 : Fin 7), b8 23, b8 59, b8 59] = true := by
  decide +kernel
/-- The last second of the week, and what follows it (R69). -/
def weekEnd : State := { dark with plans := { library with clock := some ⟨6, 23, 59, 59⟩, clockMs := 1000 } }
theorem witness_ClockSecond : weekEnd.plans.clock = some ⟨6, 23, 59, 59⟩ ∧ 1000 ≤ weekEnd.plans.clockMs ∧
    ran .clockSecond weekEnd (fun t => t.plans.clock = some ⟨0, 0, 0, 0⟩) = true := by decide +kernel

theorem witness_RestartTable :
    takes (ask 0x18 1 [] dark) 0x18 1 [] = true ∧ restartBlocked dark = false ∧ (planAt dark 0).state = .valid ∧
    ran (.restart 1 []) (ask 0x18 1 [] dark) (fun t => t.flt.mode = .startUp ∧ t.seq.state = .startAllRed) = true := by
  decide +kernel
theorem witness_StartUpBegins : dark.flt.mode = .dark ∧ junction.used 3 = true ∧ junction.fitted 11 = true := by
  decide +kernel
theorem witness_HoldReleaseAllRedTable :
    takes (ask 0x1C 1 [] (running 0)) 0x1C 1 [] = true ∧ takes (ask 0x1D 1 [] (running 0)) 0x1D 1 [] = true ∧
    takes (ask 0x1A 1 [] (running 0)) 0x1A 1 [] = true ∧ (running 0).flt.inbox = [] ∧ (running 0).flt.mode = .run ∧
    ran (.goAllRed 1 []) (ask 0x1A 1 [] (running 0)) (fun t => t.flt.mode = .allRed) = true := by decide +kernel
theorem witness_GoDarkTable :
    takes (ask 0x1B 1 [] greenOn) 0x1B 1 [] = true ∧ greenOn.flt.mode ≠ .unconfigured ∧ greenOn.flt.mode ≠ .dark ∧
    greenOn.osw.phase = .live ∧ takes (ask 0x1B 1 [] dark) 0x1B 1 [] = true ∧ dark.flt.mode = .dark ∧
    ran (.goDark 1 []) (ask 0x1B 1 [] greenOn) (fun t => t.osw.phase = .contactorRelease) = true := by decide +kernel
/-- ALL-RED-HELD. -/
def held : State := { running 0 with
  flt := { mode := .allRed, restartPermitted := true }
  seq := { state := .allRedHeld, commanded := tab 16 .off [(1, .red), (2, .red), (3, .red), (4, .red)] } }
theorem witness_ResumeTable :
    takes (ask 0x19 1 [] held) 0x19 1 [] = true ∧ held.flt.inbox = [] ∧
    ran (.resume 1 []) (ask 0x19 1 [] held) (fun t => t.flt.mode = .run ∧ t.seq.state = .commit) = true := by
  decide +kernel
/-- The target search after RESUME: no flag, the flag of S2 at entry 3, and a FIXED-TIME plan with that flag. -/
theorem witness_ResumeTable_target :
    let s := fun (m : PlanMode) (l : List Nat) => ({ held with
      plans := { held.plans with slot := held.plans.slot.modify 0 fun p => { p with mode := m } }
      seq := { held.seq with demand := nums 12 l } } : State)
    held.plans.inForce = some 0 ∧ 0 < (planAt held 0).length ∧ held.flt.mode = .allRed ∧ held.seq.state = .allRedHeld ∧
    (([(.demand, []), (.demand, [2]), (.fixedTime, [2])] : List (PlanMode × List Nat)).zip
        [Target.stage 0 0, .stage 1 2, .stage 0 0]).all (fun ((m, l), x) =>
      ran (.resume 1 []) (ask 0x19 1 [] (s m l)) fun t => t.seq.target = x && t.seq.current = none) = true := by
  decide +kernel
theorem witness_AdvanceAndDemandInsertTable :
    takes (ask 0x1E 1 [number (1 : Stage)] (running 0)) 0x1E 1 [number (1 : Stage)] = true ∧ (running 0).flt.mode = .run ∧
    junction.defined 1 = true ∧ (planInForce (running 0)).isSome = true ∧
    ((planInForce (running 0)).any fun p => p.names 1) = true ∧ (running 0).seq.current ≠ some 1 ∧
    takes (ask 0x1E 1 [13] (running 0)) 0x1E 1 [13] = true ∧ (∀ x, (13 : Byte) = number (x : Stage) → junction.defined x = false) ∧
    takes (ask 0x1E 1 [1] dark) 0x1E 1 [1] = true ∧ dark.flt.mode ≠ .run ∧ dark.flt.mode ≠ .hold := by decide +kernel
/-- The substates and states of the table's rows. -/
theorem witness_Advance_rows :
    let s := running 0
    s.seq.substate ≠ some .minimum ∧ s.plans.pendingPlan = none ∧
    ({ s with seq := { s.seq with substate := some .minimum } } : State).seq.substate = some .minimum ∧
    ({ s with seq := { s.seq with state := .interstage } } : State).seq.state = .interstage := by decide +kernel
theorem witness_DemandInsert :
    takes (ask 0x1F 1 [number (0 : Stage)] (running 0)) 0x1F 1 [number (0 : Stage)] = true ∧ junction.defined 0 = true ∧
    (running 0).seq.state = .stage ∧ (running 0).seq.current = some 0 ∧ junction.defined 1 = true ∧
    (∀ k, (0 : Byte) = number (k : Stage) → junction.defined k = false) ∧
    (∀ k, (12 : Byte) = number (k : Stage) → junction.defined k = false) := by decide +kernel

/-- The minimum green of entry 1 just reached, demand for S2 stored. -/
def minimum : State := { running 4000 with seq := { (running 4000).seq with
  substate := some .minimum, demand := nums 12 [2] } }
theorem witness_MinimumGreenExpires :
    minimum.seq.state = .stage ∧ minimum.seq.substate = some .minimum ∧ minimum.seq.elapsed = some 4000 ∧
    (runningEntry minimum).map (·.minGreen) = some (4000 / 100) ∧ minimum.flt.inbox = [] ∧
    ran .minimumGreenExpiry minimum (fun t => t.seq.substate = some .running) = true := by decide +kernel
/-- A pending advance toward S3, in HOLD; and the gap past with none pending. -/
theorem witness_MinimumGreen_commits :
    let s : State := { minimum with
      flt := { minimum.flt with mode := .hold }, seq := { minimum.seq with pendingAdvance := some 2 } }
    s.seq.pendingAdvance ≠ none ∧ s.flt.mode = .hold ∧ minimum.seq.pendingAdvance = none ∧ minimum.flt.mode = .run ∧
    inDemandPlan minimum = true ∧ demandElsewhere minimum = true ∧ minimum.seq.gap = some 4000 ∧
    (runningEntry minimum).map (·.gap) = some 5 ∧ ran .minimumGreenExpiry minimum (fun t => t.seq.state = .commit) = true ∧
    ran .minimumGreenExpiry s (fun t => t.seq.state = .commit && t.seq.target = .stage 2 1 && t.seq.switchOn.get (amberOf 0) &&
      t.seq.switchOn.get (redOf 2) && t.seq.switchOn.get (greenOf 3) && !t.seq.switchOn.get (redOf 1)) = true := by
  decide +kernel
/-- The gap of entry 1 expired, its maximum reached, demand for S2 stored. -/
def ending : State := { running 4000 with seq := { (running 4000).seq with
  demand := nums 12 [2], gap := some 500, maximum := some 4000 } }
theorem witness_StageEndEntersCommit :
    ending.seq.state = .stage ∧ ending.flt.inbox = [] ∧ ending.flt.mode = .run ∧ inDemandPlan ending = true ∧
    ending.seq.substate = some .running ∧ demandElsewhere ending = true ∧
    (runningEntry ending).map (fun x => (x.gap, x.maxGreen)) = some (500 / 100, 4000 / 100) ∧
    ran .gapExpiry ending (fun t => t.seq.state = .commit) = true ∧
    ran .maximumGreenReached ending (fun t => t.seq.state = .commit) = true := by decide +kernel
theorem witness_StageEndEntersCommit_fixed :
    let s : State := { ending with plans := { ending.plans with
      slot := ending.plans.slot.modify 0 fun p => { p with mode := .fixedTime } } }
    inDemandPlan s = false ∧ s.seq.elapsed = some 4000 ∧
    (runningEntry s).map (fun x => max x.fixed x.minGreen) = some (4000 / 100) ∧
    ran .fixedDurationReached s (fun t => t.seq.state = .commit) = true := by decide +kernel
theorem witness_StageEndEntersCommit_allRed :
    let s : State := { ending with flt := { mode := .allRed, restartPermitted := true } }
    s.flt.mode = .allRed ∧ s.seq.current = some 0 ∧ s.seq.elapsed = some 4000 ∧
    (∀ g, (s.jds.stageSet 0).get g = true → (s.jds.group.get g).floor ≤ 4000 / 100) ∧
    ran .floorWaitReached s (fun t => t.seq.target = .empty) = true := by decide +kernel

/-- COMMIT toward S2 at entry 3, the lead of 0.3 s at its end. -/
def committed : State := { running 4000 with seq := { (running 4000).seq with
  state := .commit, target := .stage 1 2, lead := some ⟨300, 300⟩ } }
theorem witness_CommitLeadExpires :
    committed.seq.state = .commit ∧ committed.seq.lead = some ⟨300, 300⟩ ∧ committed.flt.inbox = [] ∧
    timetableFor committed committed.seq.target ≠ [] ∧
    ran .commitLeadExpiry committed (fun t => t.seq.state = .interstage) = true := by decide +kernel
/-- R31: a posting in COMMIT starts the maximum timer while a stage is current, and not without one. -/
theorem test_maximum_needs_current_stage :
    let u : State := { committed with seq := { committed.seq with current := none, position := none } }
    ran (.demandInsert 1 [3]) (ask 0x1F 1 [3] committed) (fun t => t.seq.maximum = some 0) = true ∧
    ran (.demandInsert 1 [3]) (ask 0x1F 1 [3] u) (fun t => t.seq.maximum = none && t.seq.demand.get 2) = true := by
  decide +kernel
theorem witness_CommitLeadExpires_same_greens :
    let s : State := { committed with seq := { committed.seq with target := .stage 0 0 } }
    let u : State := { committed with seq := { committed.seq with current := none, target := .empty } }
    timetableFor s s.seq.target = [] ∧ s.flt.mode ≠ .allRed ∧
    ran .commitLeadExpiry s (fun t => t.seq.state = .stage) = true ∧ timetableFor u u.seq.target = [] ∧
    ran .commitLeadExpiry u (fun t => t.seq.state = .allRedHeld) = true := by decide +kernel
theorem witness_TimetableKeepsIntergreens :
    let s : State := { committed with seq := { committed.seq with leg := tab 16 none [(4, some ⟨0, 7300⟩)] } }
    losing s (.stage 1 2) 0 = true ∧ s.jds.kindOf 0 = .vehicle ∧ losing s (.stage 1 2) 2 = true ∧
    s.jds.kindOf 2 ≠ .vehicle ∧ gaining s (.stage 1 2) 1 = true ∧ (currentSet s).get 3 = false ∧
    s.seq.leg.get 3 = some ⟨0, 7300⟩ := by decide +kernel

/-- The interstage of 02 Case A at this offset, in milliseconds, with what stands PENDING of its entries. -/
def between (ms : Nat) (status : EntryStatus) (proofs : Bool) : State :=
  { running 0 with
    seq := { (running 0).seq with
      state := .interstage, target := .stage 1 2, start := some ⟨0, ms⟩, elapsed := none, substate := none
      timetable := [⟨0, 0, .amber, .issued, 0⟩, ⟨0, 2, .red, .issued, 0⟩, ⟨30, 0, .red, .issued, 0⟩,
        ⟨70, 1, .redAmber, .issued, 0⟩, ⟨90, 1, .green, status, 20⟩] }
    lmp := { lamp := tab 48 {} ([1, 7].map fun n => (n, { proof := proofs })) } }
theorem witness_TimetableEntries :
    dueEntry (between 9000 .pending true) = some ⟨90, 1, .green, .pending, 20⟩ ∧
    (∀ g, junction.conflicts 1 g = true → ((between 9000 .pending true).lmp.lamp.get (redOf g)).proof = true) ∧
    dueEntry (between 9000 .pending false) = some ⟨90, 1, .green, .pending, 20⟩ ∧ junction.conflicts 1 0 = true ∧
    ((between 9000 .pending false).lmp.lamp.get (redOf 0)).proof = false ∧
    timedOut (between 11000 .held false) = some ⟨90, 1, .green, .held, 20⟩ ∧
    (∀ h : Group, h < 0 → junction.conflicts 1 h = true → ((between 11000 .held false).lmp.lamp.get (redOf h)).proof = true) := by
  decide +kernel
/-- The end of green of G3 at offset 0, and the interstage start that its leg then is. -/
theorem witness_TimetableEntries_leg :
    let s := between 0 .pending true
    let u : State := { s with seq := { s.seq with timetable := [⟨0, 2, .red, .pending, 0⟩] } }
    dueEntry u = some ⟨0, 2, .red, .pending, 0⟩ ∧
    ran .timetableEntryDue u (fun t => t.seq.leg.get 2 = some ⟨0, 0⟩ && t.seq.leg.get 0 = none) = true := by decide +kernel
/-- G2's green the last entry, at its offset, with the red proof of G1 and G3. -/
def turning : State := { between 9000 .pending true with seq := { (between 9000 .pending true).seq with
  timetable := [⟨90, 1, .green, .pending, 20⟩], current := none
  commanded := tab 16 .off [(1, .red), (2, .redAmber), (3, .red), (4, .red)] } }
theorem witness_StepKeepsCommandedGreensApart :
    SequencerShows turning ∧ turning.seq.commanded.get 1 ≠ .green ∧ turning.jds.conflicts 0 1 = true ∧
    ran .timetableEntryDue turning (fun t => t.seq.commanded.get 1 = .green) = true := by
  refine ⟨?_, by decide +kernel, by decide +kernel, by decide +kernel⟩
  unfold SequencerShows
  refine ⟨by unfold ModePaired; decide +kernel, by decide +kernel, by decide +kernel, by decide +kernel,
    by decide +kernel, by decide +kernel, by decide +kernel, by decide +kernel, fun _ => ⟨?_, by decide +kernel⟩⟩
  intro a e b h
  have h' : [(⟨90, 1, .green, .pending, 20⟩ : TtEntry)] = a ++ e :: b := h
  match a, h' with
  | [], h' =>
    obtain ⟨rfl, rfl⟩ := List.cons.inj h'
    have hg : ∀ g, turning.seq.commanded.get g ≠ .green := by decide +kernel
    exact ⟨by simp, by decide +kernel, by simp, by simp, by simp, fun _ _ g _ h => absurd h (hg g)⟩
  | [_], h' => simp at h'
  | _ :: _ :: _, h' => simp at h'
theorem witness_StageShown :
    (running 0).seq.state = .stage ∧ (running 0).seq.current = some 0 ∧ (running 0).jds.used 2 = true ∧
    (running 0).seq.commanded.get 2 = .green := by decide +kernel
/-- 02 Case A: the green HELD at 90, the timeout at 110 and not before. -/
theorem test_green_held :
    ran .timetableEntryDue (between 9000 .pending false)
      (fun t => t.seq.timetable.map (·.status) = [.issued, .issued, .issued, .issued, .held]) = true ∧
    timedOut (between 10999 .held false) = none := by decide +kernel
theorem witness_InterstageAndStartUpEnd :
    let s := between 9400 .issued true
    let u : State := { s with seq := { s.seq with target := .empty } }
    s.seq.state = .interstage ∧ s.seq.target = .stage 1 2 ∧ s.seq.start = some ⟨0, 9400⟩ ∧
    (∀ a ∈ s.seq.timetable, a.status = .issued ∧ a.offset ≤ 9400 / 100) ∧ s.flt.mode ≠ .allRed ∧
    ran .interstageEnd s (fun t => t.seq.state = .stage ∧ t.seq.current = some 1) = true ∧
    ran .interstageEnd u (fun t => t.seq.state = .allRedHeld) = true := by decide +kernel
theorem witness_StartUpAllRedExpiry :
    let s : State := { running 0 with flt := { mode := .startUp }, seq := { state := .startAllRed, allRed := some ⟨6000, 6000⟩ } }
    s.seq.state = .startAllRed ∧ s.seq.allRed = some ⟨6000, 6000⟩ ∧
    ran .startUpAllRedExpiry s (fun t => t.seq.state = .commit) = true := by decide +kernel
theorem witness_StartUpAllRedExpiry_target :
    let s : State := { running 0 with flt := { mode := .startUp }, seq := { state := .startAllRed, allRed := some ⟨6000, 6000⟩ } }
    let u : State := { s with flt := { mode := .allRed } }
    s.plans.inForce = some 0 ∧ 0 < (planAt s 0).length ∧ s.flt.inbox = [] ∧
    ran .startUpAllRedExpiry s (fun t => t.seq.target = .stage 0 0 && t.flt.mode = .startUp) = true ∧
    ran .startUpAllRedExpiry u (fun t => t.seq.state = .allRedHeld && t.seq.target = .none) = true := by decide +kernel

/-- The junction in RUN with D1 (PRESENCE) and D2 (PUSH) as given. -/
def detecting (d1 d2 : Det1) : State := { running 0 with det := { record := tab 24 {} [(1, d1), (2, d2)], intervalMs := 1000 } }
theorem witness_DetectorInputsAndAcceptedChanges :
    (recOf (detecting {} {}) 0).contact ≠ true ∧ junction.served 0 = true ∧ true ≠ (recOf (detecting {} {}) 0).active ∧
    (junction.detector.get 0).debounce ≠ 0 ∧ junction.served 23 = false ∧
    (recOf (detecting { contact := true } {}) 0).contact ≠ false ∧ false = (recOf (detecting { contact := true } {}) 0).active ∧
    ({ junction with detector := junction.detector.modify 0 fun x => { x with debounce := 0 } } : Jds).served 0 = true := by
  decide +kernel
theorem witness_DetectorAcceptedChanges :
    let a : Det1 := { contact := true, timer := some ⟨30, 30⟩ }
    let b : Det1 := { active := true, timer := some ⟨30, 30⟩ }
    junction.served 0 = true ∧ (recOf (detecting a b) 0).timer = some ⟨30, 30⟩ ∧ (recOf (detecting a b) 0).active = false ∧
    junction.served 1 = true ∧ (recOf (detecting a b) 1).timer = some ⟨30, 30⟩ ∧ (recOf (detecting a b) 1).active = true ∧
    junction.detKind 0 = .presence ∧ (junction.detector.get 0).demand.get 1 = true ∧
    ran (.detectorActivation 0) (detecting a b) (fun t => t.seq.demand.get 1 && (recOf t 0).captured = .stage 0) = true := by
  decide +kernel
/-- R76, R77, R82, R83: the ninth activation, SILENT before it, of a detector that extends the current stage; and a release
that ends STUCK-ON. -/
theorem witness_DetectorAcceptedChanges_monitors :
    let a : Det1 := { contact := true, timer := some ⟨30, 30⟩, silent := true, activations := 8 }
    let b : Det1 := { active := true, timer := some ⟨30, 30⟩, stuckOn := true }
    let s : State := { detecting a b with seq := { (running 700).seq with current := some 1, position := some 2 } }
    (recOf s 0).activations = 8 ∧ (recOf s 0).silent = true ∧ (recOf s 0).chatter = false ∧ s.flt.inbox = [] ∧
    s.flt.mode ≠ .dark ∧ (s.jds.detector.get 0).extend.get 1 = true ∧ s.lnk.kinds.get 8 = true ∧
    s.lnk.reports.length ≤ 27 ∧ (recOf s 1).stuckOn = true ∧
    ran (.detectorActivation 0) s (fun t => (recOf t 0).capturedTime = some 7 && t.seq.gap = some 0 && (recOf t 0).chatter &&
      t.flt.list.map (·.kind) = [.detectorChatter] &&
      t.lnk.reports.map (·.kind) = [.powerUp, .faultCleared, .detectorState, .faultRaised, .detectorState] &&
      t.lnk.reports.map (·.fields.drop 1) = [[], [0], [0, 0], [1, 3, 0xFF], [3, 4]]) = true ∧
    ran (.detectorRelease 1) s (fun t => t.lnk.reports.map (·.kind) = [.powerUp, .faultCleared, .detectorState]) = true := by
  decide +kernel
theorem witness_DetectorMonitors :
    let a : Det1 := { active := true, contact := true, activeSince := some ⟨0, 300000⟩ }
    let b : Det1 := { silentSince := some ⟨0, 3600000⟩ }
    (recOf (detecting a {}) 0).activeSince = some ⟨0, 300000⟩ ∧ (recOf (detecting a {}) 0).active = true ∧
    (junction.detector.get 0).stuckLimit * 60000 ≤ 300000 ∧ junction.detKind 0 = .presence ∧
    (recOf (detecting b {}) 0).silentSince = some ⟨0, 3600000⟩ ∧ (junction.detector.get 0).silentLimit * 60000 ≤ 3600000 ∧
    ran (.detectorStuckOn 0) (detecting a {}) (fun t => (recOf t 0).fault = .stuckOn) = true ∧
    ran (.detectorSilent 0) (detecting b {}) (fun t => (recOf t 0).fault = .silent) = true := by decide +kernel
/-- R85: the stage that the substituted detector demands has its flag set; a current one that it extends has its gap
held. -/
theorem witness_DetectorMonitors_demand :
    let a : Det1 := { active := true, contact := true, activeSince := some ⟨0, 300000⟩ }
    let s := detecting a {}
    let u : State := { s with seq := { (running 700).seq with current := some 1, position := some 2 } }
    s.flt.inbox = [] ∧ (s.jds.detector.get 0).demand.get 1 = true ∧ s.seq.current ≠ some 1 ∧
    (u.jds.detector.get 0).extend.get 1 = true ∧ u.seq.state = .stage ∧ u.seq.current = some 1 ∧
    s.lnk.kinds.get 8 = true ∧ s.lnk.reports.length ≤ 29 ∧
    ran (.detectorStuckOn 0) s (fun t => t.seq.demand.get 1 && t.lnk.reports.map (·.fields) =
      [[0], [20, 1, 3, 0xFF], [0, 1, 1]]) = true ∧
    ran (.detectorStuckOn 0) u (fun t => !t.seq.demand.get 1 && t.seq.gap = some 0) = true := by decide +kernel
theorem witness_DetectorMonitors_interval :
    let s := detecting { activations := 8, chatter := true, quiet := 59 } { activations := 9, quiet := 3 }
    s.jds.desc = .accepted ∧ 1000 ≤ s.det.intervalMs ∧ (recOf s 0).activations ≤ 8 ∧ (recOf s 0).quiet + 1 = 60 ∧
    8 < (recOf s 1).activations ∧ (recOf (detecting { quiet := 58 } {}) 0).quiet + 1 < 60 ∧
    ran .chatterIntervalEnd s (fun t => (recOf t 0).chatter = false ∧ (recOf t 1).quiet = 0) = true := by decide +kernel
/-- The one chatter condition that ends, its entry listed. -/
theorem witness_DetectorMonitors_interval_end :
    let s : State := { detecting { activations := 8, chatter := true, quiet := 59 } {} with flt := {
      mode := .run, list := [⟨.detectorChatter, .detector 0, .active, 0, 0, 1⟩, ⟨.lampOut, .circuit 1, .active, 0, 0, 1⟩]
      output := true } }
    s.flt.inbox = [] ∧ s.flt.mode ≠ .dark ∧ s.jds.served 0 = true ∧ (recOf s 0).chatter = true ∧ 59 ≤ (recOf s 0).quiet ∧
    (∀ e, e ≠ 0 → (recOf s e).chatter = false) ∧ s.lnk.kinds.get 8 = true ∧ s.lnk.reports.length ≤ 29 ∧
    ran .chatterIntervalEnd s (fun t => t.flt.list.map (·.state) = [.cleared, .active] &&
      t.lnk.reports.map (·.kind) = [.powerUp, .faultCleared, .detectorState]) = true := by decide +kernel
theorem witness_DetectorReadClearsLatches :
    takes (ask 0x2D 1 [number (23 : Detector)] dark) 0x2D 1 [number (23 : Detector)] = true ∧
    takes (ask 0x2D 1 [0] dark) 0x2D 1 [0] = true ∧ takes (ask 0x2D 1 [25] dark) 0x2D 1 [25] = true ∧
    24 < (25 : Byte).toNat := by decide +kernel

/-- A state whose relay of C1 is this, and whose contactor is that. -/
def wired (r k : Coil) : State := { dark with osw := { relay := tab 48 {} [(1, { coil := r })], contactor := k } }
theorem witness_InputLevelsAreDebounced :
    (relayAt dark 0).coil.raw ≠ true ∧ dark.osw.contactor.raw ≠ true ∧ dark.osw.signalsOffRaw ≠ true ∧
    ({ dark with osw := { signalsOffRaw := true, signalsOffDebounce := some 20 } } : State).osw.signalsOffDebounce = some 20 ∧
    ran .signalsOffAsserted { dark with osw := { signalsOffRaw := true, signalsOffDebounce := some 20 } }
      (fun t => t.osw.signalsOff && t.flt.list.map (·.kind) = [.signalsOff]) = true ∧
    ran .signalsOffReleased { dark with osw := { signalsOff := true, signalsOffDebounce := some 20 } }
      (fun t => !t.osw.signalsOff) = true := by decide +kernel
theorem witness_RelaysAndContactorAreProven :
    let s := wired { commanded := true, state := .closing, raw := true, debounce := some 5 } {}
    let u := wired { state := .opening, feedback := true, raw := true, timer := some ⟨60, 60⟩ } {}
    (relayAt s 0).coil.debounce = some 5 ∧ (relayAt u 0).coil.timer = some ⟨60, 60⟩ ∧
    ran (.relayFeedbackAccepted 0) s (fun t => (relayAt t 0).coil.feedback) = true ∧
    ran (.relayTransitionTimeout 0) u (fun t => relayState t 0 = .failedClosed ∧
      t.flt.list.map (fun e => (e.kind, e.subject)) = [(.relayFailClosed, .circuit 0)]) = true := by decide +kernel
theorem witness_ContactorIsProven :
    let s := wired {} { commanded := true, state := .closing, raw := true, debounce := some 5 }
    let u := wired {} { state := .closing, commanded := true, timer := some ⟨60, 60⟩ }
    s.osw.contactor.debounce = some 5 ∧ u.osw.contactor.timer = some ⟨60, 60⟩ ∧
    ran .contactorTransitionTimeout u (fun t => t.flt.list.map (·.kind) = [.contactorFailOpen]) = true := by decide +kernel
theorem witness_RelayCommandsMoveRelays :
    (relayAt dark 0).coil.commanded ≠ true ∧ (relayAt (wired { commanded := true, state := .closed } {}) 0).coil.commanded ≠ false := by
  decide +kernel
/-- REDS-FIRST in START-UP with the red circuits of these numbers CLOSED. -/
def redsFirst (l : List Nat) : State := { dark with
  flt := { mode := .startUp }
  osw := {
    phase := .redsFirst
    relay := tab 48 {} (l.map fun n => (n, { coil := { commanded := true, state := .closed, feedback := true, raw := true } })) } }
/-- The contactor as given in CONTACTOR-RELEASE. -/
def releasing (m : Mode) (k : RelayState) : State := { dark with
  flt := { dark.flt with mode := m }, osw := { phase := .contactorRelease, contactor := { state := k } } }
theorem witness_SwitchingPhases :
    (∀ c, aspectOf c = .red → junction.fitted c = true → relayState (redsFirst [1, 4, 7, 10]) c = .closed) ∧
    (oswAfter (redsFirst [1, 4, 7, 10])).osw.phase = .live ∧
    (∀ c, (relayAt (redsFirst [1, 4, 7]) c).entering = false) ∧
    (∃ c, aspectOf c = .red ∧ junction.fitted c = true ∧ relayState (redsFirst [1, 4, 7]) c ≠ .closed) ∧
    (oswAfter (redsFirst [1, 4, 7])).osw.phase = .redsFirst ∧
    (darkCheck (releasing .startUp .open)).osw.phase = .redsFirst ∧
    (oswAfter (releasing .dark .failedClosed)).osw.phase = .outputsOff ∧
    (releasing .dark .opening).osw.contactor.state ≠ .open ∧ (releasing .dark .opening).osw.contactor.state ≠ .failedClosed := by
  refine ⟨by decide +kernel, by decide +kernel, by decide +kernel, ⟨9, by decide +kernel⟩, by decide +kernel,
    by decide +kernel, by decide +kernel, by decide +kernel, by decide +kernel⟩
/-- R96 and log 13: REDS-FIRST behind a contactor proven OPEN in ALL-RED too; OUTPUTS-OFF behind a FAILED-CLOSED one. -/
theorem witness_SwitchingPhases_allRed :
    (darkCheck (releasing .allRed .open)).osw.phase = .redsFirst ∧
    (darkCheck (releasing .allRed .failedClosed)).osw.phase = .outputsOff := by decide +kernel
/-- R96: RESTART in CONTACTOR-RELEASE, then the contactor is given up as FAILED-CLOSED: the relays stay off and the
junction is DARK; proven OPEN, the reds follow. -/
theorem test_restart_behind_failed_contactor :
    let s : State := { releasing .startUp .opening with osw := { phase := .contactorRelease
                                                                 contactor := { state := .opening, timer := some ⟨60, 60⟩, feedback := true, raw := true }
                                                                 stored := tab 16 .off [(1, .red), (2, .red), (3, .red), (4, .red)] } }
    let u : State := { s with osw := { s.osw with contactor := { state := .opening, feedback := true, debounce := some 5 } } }
    (releasing .startUp .failedClosed).osw.contactor.state = .failedClosed ∧
    ran .contactorTransitionTimeout s (fun t => t.osw.phase = .outputsOff && t.flt.mode = .dark &&
      (allFin 48).all fun c => !(relayAt t c).coil.commanded) = true ∧
    ran .contactorFeedbackAccepted u (fun t => t.osw.phase = .redsFirst && t.flt.mode = .startUp &&
      (relayAt t (redOf 0)).coil.commanded) = true := by decide +kernel
/-- G1's and G2's greens both CLOSED: the condition stands for G1 and is raised once. -/
theorem witness_Conflict :
    let s : State := { greenOn with osw := { greenOn.osw with relay := greenOn.osw.relay.set 5 {
      coil := { commanded := true, state := .closed, feedback := true, raw := true } } } }
    (conflictGroup 0 s).osw.conflict.get 0 = true ∧
    (conflictGroup 0 s).flt.inbox = [.raise .conflict (.group 0) 0xFF] ∧
    (conflictGroup 0 greenOn).osw.conflict.get 0 = false := by decide +kernel
/-- G2's green entering in LIVE, G1's green as given, OPEN for the dead time or not. -/
def switching (green : RelayState) (stored : GState) : State := { running 0 with osw := {
  relay := tab 48 {} [(3, { coil := { state := green, lastChange := some ⟨0, 30⟩ } }), (6, { entering := true }),
    (4, { coil := { lastChange := some ⟨0, 30⟩ } })]
  contactor := (running 0).osw.contactor, phase := .live, stored := tab 16 .off [(2, stored)] } }
theorem witness_DeadTimeEnergisesEnteringCircuit :
    let s := switching .open .green
    relayState s 3 = .open ∧ (∀ x, (relayAt s 3).coil.lastChange = some x → s.jds.timing.deadTime ≤ x.elapsed) ∧
    (relayAt s 5).entering = true ∧ (∀ d, d ≠ 5 → (relayAt s d).entering = false) ∧ (relayAt s 5).coil.commanded = false ∧
    s.osw.phase = .live ∧ s.cbl.pos.circuit ≠ some 5 ∧
    ran (.deadTimeElapsed 3) s (fun t => (relayAt t 5).coil.commanded) = true := by decide +kernel
theorem witness_DeadTime_conditions :
    let s := switching .open .green
    let u := switching .opening .green
    (∀ o, groupOf o = groupOf 5 → o ≠ 5 → s.jds.fitted o = true → wanted s o = false →
      relayState s o = .open ∧ ∀ x, (relayAt s o).coil.lastChange = some x → s.jds.timing.deadTime ≤ x.elapsed) ∧
    (∀ g, s.jds.conflicts (groupOf 5) g = true → relayState s (greenOf g) = .open) ∧ aspectOf 5 = .green ∧
    u.jds.conflicts (groupOf 5) 0 = true ∧ relayState u (greenOf 0) ≠ .open ∧
    ran (.deadTimeElapsed 3) u (fun t => !(relayAt t 5).coil.commanded) = true := by decide +kernel

/-- A window at its end in the diagnostic slot. -/
def window (ch : Channel) : State := { running 0 with mea := { ({} : Mea) with
  diag := .converting ⟨ch, 0, false⟩, conv := some ⟨.diag, 0, 10000, 10000⟩, refBad := 2, offGood := 9, offCond := true } }
theorem witness_ConversionDelivers :
    (window .ref).mea.conv = some ⟨.diag, 0, 10000, 10000⟩ ∧ (window .ref).mea.slot .diag = .converting ⟨.ref, 0, false⟩ ∧
    (window .supply).mea.slot .diag = .converting ⟨.supply, 0, false⟩ ∧
    (window .offset).mea.slot .diag = .converting ⟨.offset, 0, false⟩ ∧ (window .offset).mea.bypass = none ∧
    (window .offset).mea.offVoid = false ∧
    ran (.conversionComplete 2090) (window .ref) (fun t => t.mea.refCond) = true ∧
    ran (.conversionComplete 100) (window .offset) (fun t => !t.mea.offCond && t.mea.measured = 100) = true ∧
    ran (.conversionComplete 1840) (window .supply) (fun t => t.mea.supply = .normal) = true := by decide +kernel
/-- R119, R121: the raise of the reference's condition while the offset's stands is none; SUPPLY-LOSS at the third. -/
theorem witness_ConversionDelivers_faults :
    let s : State := { window .supply with mea := { (window .supply).mea with supAbsent := 2 } }
    let u : State := { window .ref with mea := { (window .ref).mea with offCond := false } }
    ran (.conversionComplete 0) s (fun t => t.flt.list.map (·.kind) = [.supplyLoss]) = true ∧
    ran (.conversionComplete 0) u (fun t => t.flt.list.map (·.kind) = [.measurementFault]) = true ∧
    ran (.conversionComplete 0) (window .ref) (fun t => t.mea.refCond && t.flt.list = []) = true := by decide +kernel
theorem witness_ConversionDelivers_other :
    let s := window (.leak 0)
    let u : State := { window .offset with mea := { (window .offset).mea with bypass := some 40 } }
    let w : State := { window .offset with mea := { (window .offset).mea with offVoid := true } }
    s.mea.slot .diag = .converting ⟨.leak 0, 0, false⟩ ∧ u.mea.bypass ≠ none ∧ w.mea.offVoid = true ∧
    [s, u, w].all (fun x => ran (.conversionComplete 7) x fun t => t.mea.lastOffset = none && t.mea.offGood = 9) = true := by
  decide +kernel
/-- The SUPPLY reading that reset makes due is placed before the first 200 ms; at 200 ms it falls due again. -/
theorem witness_DiagnosticsAndBypass :
    let s : State := { dark with mea := { ({} : Mea) with diagMs := 200, dueSupply := false } }
    200 ≤ s.mea.diagMs ∧ dark.mea.diagMs < 200 ∧ dark.mea.diag = .empty ∧ dark.mea.dueSupply = true ∧
    [s, dark].all (fun x => ran .diagnosticDue x fun t => t.mea.diag = .converting ⟨.supply, 0, false⟩) = true ∧
    takes (ask 0x32 1 (1 :: be16 4096) dark) 0x32 1 (1 :: be16 4096) = true ∧
    takes (ask 0x32 1 [0, 0, 0] dark) 0x32 1 [0, 0, 0] = true ∧ takes (ask 0x32 1 [2, 0, 0] dark) 0x32 1 [2, 0, 0] = true ∧
    ran (.measureSetOn 1 (1 :: be16 4096)) (ask 0x32 1 (1 :: be16 4096) dark)
      (fun t => t.lnk.replies = [⟨0xB2, 1, [0, 0, 1, 0, 0, 0]⟩] ∧ t.mea.bypass = some 4095) = true := by decide +kernel
/-- R117: the bypass goes on with the offset's condition present, its request WAITING and CONVERTING. -/
theorem witness_Bypass_offset :
    let s := fun x => ask 0x32 1 (1 :: be16 40) { running 0 with mea := { ({} : Mea) with
      dueSupply := false, dueRef := false, offCond := true, diag := x, conv := some ⟨.diag, 0, 10000, 0⟩ } }
    let q : Req := ⟨.offset, 0, false⟩
    (s (.waiting q)).mea.bypass ≠ some (min (40 : BitVec 16).toNat 4095) ∧ (s (.waiting q)).mea.diag = .waiting q ∧
    (s (.converting q)).mea.diag = .converting q ∧ q.channel = .offset ∧
    ran (.measureSetOn 1 (1 :: be16 40)) (s (.waiting q)) (fun t => t.mea.diag = .empty && !t.mea.offVoid &&
      t.lnk.reports.map (·.kind) = [.powerUp, .faultCleared]) = true ∧
    ran (.measureSetOn 1 (1 :: be16 40)) (s (.converting q)) (fun t => t.mea.diag = .converting q && t.mea.offVoid) = true := by
  decide +kernel
/-- R112: the orders of the grant. -/
theorem witness_Grant :
    let q : SlotContent := .waiting ⟨.voltage 0, 0, false⟩
    let s := fun p d lastCbl => ({ running 0 with mea := { ({} : Mea) with
      proof := p, diag := d, routine := q, cbl := q, lastCbl := lastCbl } } : State)
    [grant 0 (s q q true), grant 0 (s .empty q true), grant 0 (s .empty .empty true), grant 0 (s .empty .empty false)].map
      (fun t => t.mea.conv.map (·.slot)) = [some .proof, some .diag, some .routine, some .cbl] := by decide +kernel

theorem witness_LampLearnTable :
    takes (ask 0x29 1 [number (0 : Circuit)] dark) 0x29 1 [number (0 : Circuit)] = true ∧ junction.fitted 0 = true ∧
    (dark.lmp.lamp.get 0).state ≠ .learning ∧ takes (ask 0x29 1 [49] dark) 0x29 1 [49] = true ∧
    (∀ c, (49 : Byte) = number (c : Circuit) → junction.fitted c = false) ∧
    (∀ c, (8 : Byte) = number (c : Circuit) → junction.fitted c = false) := by decide +kernel
/-- C1 lit, its settle time just over, the supply NORMAL. -/
def litRedState : State := { running 0 with
  osw := { (running 0).osw with relay := tab 48 {} [(1, { coil := {
    commanded := true, state := .closed, feedback := true, raw := true, lastChange := some ⟨0, 200⟩ } })] }
  mea := { s := 2300, supply := .normal } }
theorem witness_LampRequestsArePlaced :
    evaluable litRedState 0 = true ∧ litRedState.flt.inbox = [] ∧ litRedState.flt.mode ≠ .dark ∧
    litRedState.mea.proof = .empty ∧ awaitingProof litRedState 0 = true ∧
    (∀ e, e < 0 → awaitingProof litRedState e = false) ∧ offEligible litRedState 1 = true ∧
    litRedState.mea.routine = .empty ∧ (∀ e, (evaluable litRedState e && !awaitingProof litRedState e) = false) ∧
    NextAfter litRedState.lmp.offPtr (offEligible litRedState) 1 ∧
    ran (.lampSettleTimeElapsed 0) litRedState (fun t => t.mea.proof ≠ .empty) = true ∧
    ran (.offCheckEligibilityTime 1) litRedState (fun t => t.lmp.offPtr = some 1) = true := by
  refine ⟨by decide +kernel, by decide +kernel, by decide +kernel, by decide +kernel, by decide +kernel, by decide +kernel,
    by decide +kernel, by decide +kernel, by decide +kernel, ⟨by decide +kernel, ?_⟩, by decide +kernel, by decide +kernel⟩
  show ∀ e, offEligible litRedState e = true → e ≠ 1 → 1 < e
  decide +kernel
/-- C1 proven: the routine slot takes its evaluation, and after eight evaluations the off-check of C2. -/
theorem witness_LampRequests_routine :
    let s := fun n => ({ litRedState with lmp := {
      lamp := tab 48 {} [(1, { evalCount := some 0 })], evals := n, routinePtr := some 0, offPtr := some 47 } } : State)
    let routine := fun e => evaluable (s 7) e && !awaitingProof (s 7) e
    (∀ d, awaitingProof (s 7) d = false) ∧ NextAfter (s 7).lmp.routinePtr routine 0 ∧ (s 7).lmp.evals ≠ 8 ∧
    (s 8).lmp.evals = 8 ∧ NextAfter (s 8).lmp.offPtr (offEligible (s 8)) 1 ∧
    ran (.lampSettleTimeElapsed 0) (s 7) (fun t => t.lmp.evals = 8 && t.lmp.routinePtr = some 0 && t.mea.proof = .empty) = true ∧
    ran (.lampSettleTimeElapsed 0) (s 8) (fun t => t.lmp.evals = 0 && t.lmp.offPtr = some 1) = true := by
  intro s routine
  refine ⟨by decide +kernel, ⟨by decide +kernel, ?_⟩, by decide +kernel, rfl, ⟨by decide +kernel, ?_⟩, by decide +kernel,
    by decide +kernel⟩
  · show ∀ e, (evaluable (s 7) e && !awaitingProof (s 7) e) = true → e ≠ 0 →
      (0 : Circuit) < 0 ∧ (e ≤ 0 ∨ 0 < e) ∨ (0 : Circuit) ≤ 0 ∧ e ≤ 0 ∧ 0 < e
    decide +kernel
  · show ∀ e, offEligible (s 8) e = true → e ≠ 1 →
      (47 : Circuit) < 1 ∧ (e ≤ 47 ∨ 1 < e) ∨ (1 : Circuit) ≤ 47 ∧ e ≤ 47 ∧ 1 < e
    decide +kernel
/-- R125, R140: each condition, at its time. -/
theorem witness_LampRequests_conditions :
    let aged := fun (tech : Technology) (st : RelayState) (ms : Nat) => ({ litRedState with
      jds := { junction with circuit := junction.circuit.modify 0 fun r => { r with technology := tech } }
      osw := { litRedState.osw with relay := tab 48 {} [(1, { coil := { state := st, lastChange := some ⟨0, ms⟩ } })] } } : State)
    [evaluable (aged .filament .closed 200) 0, evaluable (aged .led .closed 500) 0, offEligible (aged .led .open 300) 0] =
      [true, true, true] ∧
    [evaluable (aged .filament .closed 199) 0, evaluable (aged .led .closed 499) 0, offEligible (aged .led .open 299) 0] =
      [false, false, false] := by decide +kernel
/-- R112: at a window's end the engine grants before what only the same millisecond makes due: the waiting CBL request
goes first, and the red whose settle time is just over waits in the proof slot. -/
theorem test_completion_before_settle :
    ran (.conversionComplete 100) { litRedState with mea := { litRedState.mea with
        dueSupply := false, dueRef := false, dueOffset := false, lastCbl := false
        routine := .converting ⟨.current 2, 0, false⟩, cbl := .waiting ⟨.voltage 19, 0, false⟩
        conv := some ⟨.routine, 0, 10000, 10000⟩ } }
      (fun t => t.mea.conv.map (·.slot) = some .cbl && t.mea.proof = .waiting ⟨.current 0, 0, false⟩) = true := by
  decide +kernel
theorem witness_EvaluationsConfirmSlowly :
    aspectOf 0 = .red ∧ coarse measuring litRed = false ∧
    (let x := { litRed with proof := false, avg := none }
     (x.evaluated measuring 0 1 521).proof = true) ∧
    (let x := { litRed with downRun := 2, avg := some 334 }
     (x.evaluated measuring 0 0 270).k ≠ x.k) := by decide +kernel
/-- R135 in fine mode: the flag kept with k below the floor, and kept by a circuit that is not red. -/
theorem witness_Evaluations_proof :
    let s : State := { measuring with jds := { junction with group := junction.group.modify 0 fun g => { g with redFloor := 2 } } }
    let x : Lamp := { litRed with k := 1, e := some 2 }
    (x.evaluated s 0 0 521).e = some 2 ∧ (x.evaluated s 0 0 521).k = 1 ∧ (x.evaluated s 0 0 521).proof = true ∧
    aspectOf 1 ≠ .red ∧ (litRed.evaluated s 1 0 0).proof = true := by decide +kernel
/-- C1 lit, its reading at the end of its window in the proof slot; the switch count the request carries as given. -/
def reading (count : BitVec 16) : State := { litRedState with mea := { litRedState.mea with
  proof := .converting ⟨.current 0, count, false⟩, conv := some ⟨.proof, 0, 10000, 10000⟩ } }
/-- C2 off, its off-check at the end of its window in the routine slot. -/
def offReading (x : Lamp) : State := { litRedState with
  lmp := { lamp := tab 48 {} [(2, x)] }
  mea := { litRedState.mea with routine := .converting ⟨.current 1, 0, true⟩, conv := some ⟨.routine, 0, 10000, 10000⟩ } }
/-- R113, R128: taken; stale; and not evaluable any more. -/
theorem witness_Evaluations_conversions :
    let s := reading 0
    let u : State := { s with osw := (running 0).osw }
    s.mea.conv = some ⟨.proof, 0, 10000, 10000⟩ ∧ s.mea.slot .proof = .converting ⟨.current 0, 0, false⟩ ∧
    countOf s 0 = 0 ∧ evaluable s 0 = true ∧ s.flt.inbox = [] ∧ s.seq.timetable.all (fun e => e.status ≠ .held) = true ∧
    countOf (reading 1) 0 ≠ 1 ∧ evaluable u 0 = false ∧
    ran (.conversionComplete 521) s (fun t => (t.lmp.lamp.get 0).avg = some 521) = true ∧
    [reading 1, u].all (fun x => ran (.conversionComplete 521) x fun t => t.lmp.lamp = s.lmp.lamp) = true := by decide +kernel
/-- R140, R144: high for the second time, low for the third, and one not off-check eligible; the last retest passes. -/
theorem witness_Evaluations_off_checks :
    let a : Lamp := { highRun := 1, offRetest := some 2 }
    let b : Lamp := { onWhenOff := true, lowRun := 2 }
    let s := offReading a
    let u : State := { s with osw := { s.osw with relay := s.osw.relay.set 1 { coil := { state := .closed } } } }
    s.mea.slot .routine = .converting ⟨.current 1, 0, true⟩ ∧ countOf s 1 = 0 ∧ offEligible s 1 = true ∧
    offEligible (offReading b) 1 = true ∧ offEligible u 1 = false ∧
    ran (.conversionComplete 61) s (fun t => (t.lmp.lamp.get 1).onWhenOff && (t.lmp.lamp.get 1).offRetest = none) = true ∧
    ran (.conversionComplete 60) s (fun t => !(t.lmp.lamp.get 1).onWhenOff && (t.lmp.lamp.get 1).highRun = 0) = true ∧
    ran (.conversionComplete 60) (offReading b) (fun t => !(t.lmp.lamp.get 1).onWhenOff) = true ∧
    ran (.conversionComplete 61) u (fun t => t.lmp.lamp.get 1 = a) = true := by decide +kernel
/-- A count that goes up, learning's last evaluation, its supply not NORMAL, and an overcurrent that ends. -/
theorem witness_Evaluations_sections :
    let up := ({ litRed with k := 1, e := some 2, upRun := 4 } : Lamp).evaluated measuring 0 0 521
    let learns : Lamp := { state := .learning, learn := 7, k := 2, evalCount := some 0, avg := some 50 }
    let low : State := { running 0 with mea := { s := 1800, supply := .low } }
    let high : Lamp := { litRed with overcurrent := true, overRun := 2 }
    up.k = 2 ∧ (learns.evaluated measuring 4 0 62).state = .proven ∧ (learns.evaluated measuring 4 0 62).p = 25 ∧
    (learns.evaluated low 4 0 62).learn = 7 ∧ (high.evaluated measuring 0 0 521).overcurrent = false ∧
    coarse low litRed = true ∧ (litRed.evaluated low 0 0 521).k = litRed.k := by decide +kernel

theorem witness_CableRequests :
    junction.fitted 0 = true ∧ dark.flt.inbox = [] ∧ takes (ask 0x2A 1 [number (0 : Circuit)] dark) 0x2A 1 [number (0 : Circuit)] = true ∧
    takes (ask 0x2B 1 [number (0 : Circuit)] dark) 0x2B 1 [number (0 : Circuit)] = true ∧
    takes (ask 0x2C 1 [number (0 : Circuit)] dark) 0x2C 1 [number (0 : Circuit)] = true ∧
    (∀ c, (0 : Byte) = number (c : Circuit) → junction.fitted c = false) ∧ takes (ask 0x2A 1 [0] dark) 0x2A 1 [0] = true := by
  decide +kernel
/-- C1 under test with the injector on it: the rows of CABLE-SUSPEND and CABLE-TEST-NOW. -/
def tested (step : TestStep) (placed : Bool) (settle : Option Timer) : State := { dark with
  cbl := { test := some ⟨0, step, placed, 610, some 300, none, settle⟩, pos := .on 0 .load } }
theorem witness_CableRequests_under_test :
    let s := tested .loadSettle false (some ⟨50, 50⟩)
    (∃ w, s.cbl.test = some w ∧ w.circuit = 0) ∧ s.cbl.pos = .on 0 .load ∧ (s.cbl.cable.get 0).suspended = false ∧
    ran (.cableSuspend 1 [1]) (ask 0x2B 1 [1] s) (fun t => t.cbl.pos = .releasing 0 .load false ∧ t.cbl.test = none) = true :=
  ⟨⟨_, rfl, rfl⟩, rfl, by decide +kernel, by decide +kernel⟩
theorem witness_StepKeepsInjectorOnOpenRelay :
    let s := tested .loadSettle false (some ⟨20, 20⟩)
    InjectorOnTest s ∧ ran .injectorLoadSettle s (fun t => t.cbl.pos = .on 0 .load && relayState t 0 = .open) = true :=
  ⟨⟨fun w h => by obtain rfl := Option.some.inj h; decide +kernel, fun c m h => ⟨_, rfl, by cases h; rfl⟩⟩,
    by decide +kernel⟩
/-- C1 under test with the injector FREE, its first request WAITING: the suspension leaves it FREE, and another test may
start. -/
theorem witness_CableRequests_free :
    let s : State := { dark with
      cbl := { test := some { circuit := 0, placed := true } }
      mea := { ({} : Mea) with cbl := .waiting ⟨.voltage 0, 0, false⟩, conv := some ⟨.diag, 0, 10000, 0⟩ } }
    (∀ d m, s.cbl.pos ≠ .on d m) ∧ s.lnk.kinds.get 6 = true ∧ s.lnk.reports.length < 32 ∧
    ran (.cableSuspend 1 [1]) (ask 0x2B 1 [1] s) (fun t => t.cbl.pos = .free && (t.cbl.cable.get 0).abandons = 1 &&
      t.cbl.test.map (·.circuit) = some 1 && t.mea.cbl = .waiting ⟨.voltage 1, 0, false⟩ &&
      t.lnk.reports.map (·.fields) = [[0], [4, 0, 0]]) = true ∧
    ran (.cableResume 1 [1]) (ask 0x2C 1 [1] { s with cbl := { cable := tab 48 {} [(1, { suspended := true })] } })
      (fun t => t.lnk.reports.map (·.fields) = [[0], [0, 0, 0]]) = true :=
  ⟨fun _ _ h => InjPos.noConfusion h, by decide +kernel⟩
theorem witness_CableTestsStartAndGoOn :
    junction.fitted 0 = true ∧ dark.cbl.test = none ∧ relayState dark 0 = .open ∧
    (∀ x, (relayAt dark 0).coil.lastChange = some x → 500 ≤ x.elapsed) ∧ testEligible dark 0 = true ∧
    (∀ e, testEligible dark e = true → (dark.cbl.cable.get e).retestDue = false) ∧ (dark.cbl.cable.get 0).lastTest = none ∧
    (∀ e, e < 0 → testEligible dark e = true → (dark.cbl.cable.get e).lastTest ≠ none) ∧
    ran (.cableEligibilityTime 0) dark (fun t => t.cbl.test.map (·.circuit) = some 0) = true := by decide +kernel
/-- C2 has its retest due, and C1's period has elapsed. -/
theorem witness_CableTestsStartAndGoOn_retest :
    let s : State := { dark with cbl := { cable := tab 48 {} [(1, { lastTest := some ⟨0, 600000⟩ }), (2, { retestDue := true })] } }
    testEligible s 1 = true ∧ (s.cbl.cable.get 1).retestDue = true ∧
    (∀ e, e < 1 → testEligible s e = true → (s.cbl.cable.get e).retestDue = false) ∧
    (s.cbl.cable.get 0).lastTest = some ⟨0, 600000⟩ ∧ (s.jds.circuit.get 0).testPeriod * 60000 ≤ 600000 ∧
    ran (.cablePeriodElapsed 0) s (fun t => t.cbl.test.map (·.circuit) = some 1) = true := by decide +kernel
/-- C1 and C2 have gone their period, C2 tested the longer ago; no circuit is UNTESTED or has its retest due. -/
theorem witness_CableTestsStartAndGoOn_period :
    let s : State := { dark with cbl := {
      cable := tab 48 { lastTest := some ⟨0, 1000⟩ }
        [(1, { lastTest := some ⟨0, 600000⟩ }), (2, { lastTest := some ⟨0, 600001⟩ })] } }
    testEligible s 1 = true ∧
    (∀ e, testEligible s e = true → (s.cbl.cable.get e).retestDue = false ∧ (s.cbl.cable.get e).lastTest ≠ none) ∧
    (s.cbl.cable.get 1).lastTest = some ⟨0, 600001⟩ ∧ (s.jds.circuit.get 1).testPeriod * 60000 ≤ 600001 ∧
    (allFin 48).all (fun e => (s.cbl.cable.get e).lastTest.all fun y =>
      y.elapsed < 600001 || (y.elapsed = 600001 && 1 ≤ e)) = true ∧
    ran (.cablePeriodElapsed 0) s (fun t => t.cbl.test.map (·.circuit) = some 1) = true := by decide +kernel
theorem witness_CableTests_settles :
    let s := tested .loadSettle false (some ⟨50, 50⟩)
    let u := tested .testSettle false (some ⟨50, 50⟩)
    s.cbl.test = some ⟨0, .loadSettle, false, 610, some 300, none, some ⟨50, 50⟩⟩ ∧ s.mea.cbl = .empty ∧
    (s.jds.circuit.get 0).loopCheck = .byTechnology ∧ (s.jds.circuit.get 0).technology = .filament ∧
    (s.jds.circuit.get 3).technology = .led ∧
    ran .injectorLoadSettle s (fun t => t.cbl.test.map (·.step) = some .loadedV) = true ∧
    ran .injectorTestSettle u (fun t => t.cbl.test.map (·.step) = some .loop) = true := by decide +kernel
/-- A CBL result at the end of its window. -/
def cableReading (step : TestStep) (ch : Channel) (count : BitVec 16) : State := { tested step true none with
  mea := { ({} : Mea) with cbl := .converting ⟨ch, count, false⟩, conv := some ⟨.cbl, 0, 10000, 10000⟩ } }
theorem witness_CableTests_results :
    let s := cableReading .openV (.voltage 0) 0
    let u := cableReading .loadedV (.voltage 0) 0
    let w := cableReading .loop (.loop 0) 0
    s.cbl.test = some ⟨0, .openV, true, 610, some 300, none, none⟩ ∧ s.mea.slot .cbl = .converting ⟨.voltage 0, 0, false⟩ ∧
    countOf s 0 = 0 ∧ s.flt.inbox = [] ∧ s.jds.timing.foreignOpen = 500 ∧
    ran (.conversionComplete 500) s (fun t => t.cbl.test.map (·.step) = some .testSettle && t.cbl.pos = .on 0 .test) = true ∧
    ran (.conversionComplete 501) s (fun t => t.cbl.test.map (·.step) = some .loadSettle && t.cbl.pos = .on 0 .load) = true ∧
    ran (.conversionComplete 30) u (fun t => t.cbl.test.map (·.vl) = some (some 30) && t.cbl.pos = .on 0 .test) = true ∧
    ran (.conversionComplete 52) w (fun t => t.cbl.test.map (·.step) = some .leak) = true ∧
    ran (.conversionComplete 52) (cableReading .loop (.loop 0) 1) (fun t => t.cbl.test.map (·.loop) = some none) = true := by
  decide +kernel
theorem witness_LeakReadingCompletesTest :
    let s : State := { tested .leak true none with mea := { ({} : Mea) with
      cbl := .converting ⟨.leak 0, 0, false⟩, conv := some ⟨.cbl, 0, 10000, 10000⟩ } }
    s.mea.conv = some ⟨.cbl, 0, 10000, 10000⟩ ∧ s.mea.slot .cbl = .converting ⟨.leak 0, 0, false⟩ ∧
    s.cbl.test = some ⟨0, .leak, true, 610, some 300, none, none⟩ ∧ countOf s 0 = 0 ∧ s.cbl.pos = .on 0 .load ∧
    s.jds.timing.foreignOpen < 610 ∧ s.jds.timing.foreignLoaded < 300 ∧ (s.jds.circuit.get 0).leakLimit < 501 ∧
    ran (.conversionComplete 501) s (fun t => (t.cbl.cable.get 0).foreignRun.fail = 1 ∧
      (t.cbl.cable.get 0).insulationRun.fail = 1 ∧ t.cbl.pos = .releasing 0 .load true) = true := by decide +kernel
/-- R156, R158: the first good test teaches the baseline; a rising loop ends SUSPECT with the retest due again. -/
theorem witness_LeakReading_baseline :
    let s := cableReading .leak (.leak 0) 0
    let with' := fun (l b : Nat) => ({ s with cbl := { s.cbl with
      test := some ⟨0, .leak, true, 40, none, some l, none⟩
      cable := tab 48 {} [(1, { baseline := b, retestDue := true })] } } : State)
    ran (.conversionComplete 120) (with' 52 0) (fun t => (t.cbl.cable.get 0).baseline = 52 &&
      !(t.cbl.cable.get 0).retestDue) = true ∧
    ran (.conversionComplete 120) (with' 209 52) (fun t => (t.cbl.cable.get 0).baseline = 52 &&
      (t.cbl.cable.get 0).openRun.fail = 1 && cableState t 0 = .suspect && (t.cbl.cable.get 0).retestDue) = true ∧
    ran (.conversionComplete 120) (with' 12 52) (fun t => (t.cbl.cable.get 0).shortRun.fail = 1) = true ∧
    ran (.conversionComplete 120) (with' 0 0) (fun t => (t.cbl.cable.get 0).baseline = 0) = true := by decide +kernel
/-- R158: a second leaking test confirms INSULATION; the raise, then the report of the state. -/
theorem witness_LeakReading_faults :
    let s := cableReading .leak (.leak 0) 0
    let u : State := { s with cbl := { s.cbl with
      test := some ⟨0, .leak, true, 40, none, some 52, none⟩
      cable := tab 48 {} [(1, { baseline := 52, lastTest := some ⟨0, 9⟩, insulationRun := { fail := 1 } })] } }
    u.jds.fitted 0 = true ∧ cableState u 0 = .suspect ∧
    ran (.conversionComplete 501) u (fun t => t.flt.list.map (·.kind) = [.cableInsulation] && cableState t 0 = .faulty &&
      t.lnk.reports.map (·.fields) = [[0], [15, 1, 1, 0xFF], [3, 4, 0]]) = true := by decide +kernel
theorem witness_InjectorAndOverdue :
    let s : State := { dark with cbl := { pos := .releasing 0 .test true, release := some ⟨200, 200⟩, stuck := true } }
    let u : State := { dark with cbl := { cable := tab 48 {} [(1, { dueFrom := ⟨0, 1200000⟩ })] } }
    s.cbl.pos = .releasing 0 .test true ∧ s.cbl.release = some ⟨200, 200⟩ ∧
    ran .injectorClear s (fun t => t.cbl.pos = .free && !t.cbl.stuck) = true ∧
    ran .injectorStuck { s with cbl := { s.cbl with stuck := false } } (fun t => t.flt.list.map (·.kind) = [.injectorStuck]) = true ∧
    u.jds.fitted 0 = true ∧ (u.cbl.cable.get 0).overdue = false ∧
    2 * ((u.jds.circuit.get 0).testPeriod * 60000) ≤ (u.cbl.cable.get 0).dueFrom.elapsed ∧
    u.lnk.reports.length < 32 ∧ u.lnk.kinds.get 7 = true := by decide +kernel

/-- A list with an entry of each state. -/
def listed : State := { dark with flt := { dark.flt with
  list := [⟨.lampOut, .circuit 1, .active, 0, 0, 255⟩, ⟨.redOut, .group 0, .pendingRetest, 0, 0, 1⟩,
    ⟨.cableShort, .circuit 47, .cleared, 0, 0, 1⟩], output := true } }
theorem witness_FaultClearTable :
    let b : List Byte := [b8 FaultKind.cableShort.code, 48]
    takes (ask 0x31 1 b listed) 0x31 1 b = true ∧ subject? .cableShort 48 = some (.circuit 47) ∧ listed.flt.inbox = [] ∧
    listed.flt.list.find? (FEntry.is .cableShort (.circuit 47)) = some ⟨.cableShort, .circuit 47, .cleared, 0, 0, 1⟩ ∧
    listed.flt.list.find? (FEntry.is .lampOut (.circuit 1)) = some ⟨.lampOut, .circuit 1, .active, 0, 0, 255⟩ ∧
    subject? .conflict 1 = some (.group 0) ∧ (∀ e ∈ listed.flt.list, ¬(e.kind = .conflict ∧ e.subject = .group 0)) ∧
    takes (ask 0x31 1 [0, 0] listed) 0x31 1 [0, 0] = true ∧ takes (ask 0x31 1 [23, 0] listed) 0x31 1 [23, 0] = true ∧
    listed.flt.overflow = false := by decide +kernel
theorem witness_FaultsAreListedAndAnswered_raise :
    (∃ e ∈ listed.flt.list, e.kind = .lampOut ∧ e.subject = .circuit 1) ∧
    (¬∃ e ∈ listed.flt.list, e.kind = .conflict ∧ e.subject = .group 0) ∧ listed.flt.list.length < 32 ∧
    (let e : FEntry := ⟨.conflict, .group 0, .active, 0, 0, 1⟩
     let full : List FEntry := List.replicate 32 e
     32 ≤ full.length ∧ (¬∃ e ∈ full, e.kind = .redOut ∧ e.subject = .group 0) ∧ ∀ e ∈ full, e.state ≠ .cleared) ∧
    responseAtRaise (running 0) .relayFailOpen (.circuit 1) = .allRed ∧ responseAtRaise (running 0) .conflict .none = .dark := by
  decide +kernel
theorem witness_FaultsAreListedAndAnswered_evicts :
    let a : List FEntry := List.replicate 31 ⟨.conflict, .group 0, .active, 0, 0, 1⟩
    let e : FEntry := ⟨.lampOut, .circuit 1, .cleared, 0, 0, 1⟩
    32 ≤ (a ++ e :: []).length ∧ e.state = .cleared ∧ ∀ x ∈ a, x.state ≠ .cleared := by decide +kernel
theorem witness_FaultsAreListedAndAnswered_clear :
    listed.flt.list.find? (FEntry.is .redOut (.group 0)) = some ⟨.redOut, .group 0, .pendingRetest, 0, 0, 1⟩ ∧
    (let s : State := { dark with flt := {
        mode := .dark, restartPermitted := true, darkCause := .fault .supplyLoss
        list := [⟨.supplyLoss, .none, .active, 0, 0, 1⟩] } }
     s.flt.list.find? (FEntry.is .supplyLoss .none) = some ⟨.supplyLoss, .none, .active, 0, 0, 1⟩ ∧
     (takeClear .supplyLoss .none s).flt.mode = .startUp) := by decide +kernel
/-- R174: a configured pair, a fixed kind of each sort, and the amber rule; R181: RED-OUT's pass with its companion. -/
theorem witness_FaultsAreListedAndAnswered_passed :
    let s : State := { dark with flt := { dark.flt with list := [⟨.redOut, .group 0, .pendingRetest, 0, 0, 1⟩,
      ⟨.redProofTimeout, .group 0, .pendingRetest, 0, 0, 1⟩, ⟨.redOut, .group 1, .pendingRetest, 0, 0, 1⟩] } }
    responsePairs.get 5 = (.lampOut, .any) ∧ (∀ i, responsePairs.get i ≠ (.relayFailClosed, .green)) ∧
    responseOf s .relayFailClosed (.circuit 2) = .dark ∧ responseOf s .detectorSilent (.detector 0) = .report ∧
    responseAtRaise { s with flt := { s.flt with mode := .startUp } } .relayFailClosed (.circuit 1) = .dark ∧
    (takePassed .redOut (.group 0) s).flt.list.map (·.state) = [.cleared, .cleared, .pendingRetest] ∧
    (takePassed .redOut (.group 0) s).lnk.reports.map (·.fields) = [[0], [7, 1], [8, 1]] ∧
    (takeRaise .lampOut (.circuit 0) 2 s).lnk.reports.map (·.fields) = [[0], [10, 1, 1, 2]] := by decide +kernel

/-! ### Witnesses: the further clauses of these statements, each at a boundary -/

/-- R192: a body one byte too long, or too short, for each layout. -/
theorem witness_TakenRequest_bad_length :
    let rows : List (Byte × (Byte → List Byte → Instr) × List Byte) := [
      (0x1C, .hold, [1]), (0x08, .planOpen, []), (0x04, .junctionRead, [1]), (0x32, .measureSetOn, [1, 0]),
      (0x0F, .clockSet, [1, 0, 0]), (0x0D, .scheduleWrite, [1, 0, 0, 0, 0, 1, 0]), (0x30, .faultListRead, [1, 0]),
      (0x02, .junctionWrite, []), (0x02, .junctionWrite, [3, 1, 0]), (0x09, .planWriteHeader, [1]),
      (0x09, .planWriteHeader, [1, 1, 1]), (0x09, .planWriteSequence, [1, 2, 2, 1]), (0x09, .planWriteSequence, [1, 2]),
      (0x09, .planWriteEntryTiming, [1, 3, 1])]
    ¬LengthFits 0x1C [1] ∧ ¬LengthFits 0x02 [3, 1, 0] ∧ ¬LengthFits 0x09 [1, 2, 2, 1] ∧ LengthFits 0x09 [1, 2, 1, 1] ∧
    rows.all (fun (k, i, b) => (i 1 b).wellFormed && takes (ask k 1 b drafting) k 1 b &&
      answers i k b drafting = [[2, 2, 0, 0, 0, 0]]) = true := by
  refine ⟨?_, ?_, ?_, ?_, by decide +kernel⟩ <;> simp [LengthFits, byteAt]
/-- R191: the report of a fifth request. -/
theorem test_overrun_report :
    let s : State := { full with lnk := { full.lnk with reports := [], kinds := Tab.const 10 true } }
    ran (.frameReceived ((wire ⟨0x1C, 9, []⟩).map .byte)) s
      (fun t => t.lnk.counters.overrun = 1 && t.lnk.requests = s.lnk.requests &&
        t.lnk.reports.map (fun r => (r.kind, r.fields)) = [(.linkOverrun, [0x1C, 9, 0, 1])]) = true := by decide +kernel
/-- R15: the first failure of each of checks 3 to 8, the earlier checks passed. -/
theorem witness_Accepted_later_checks :
    let c := fun n r => { junction with circuit := junction.circuit.set n r }
    [failedCheck (c 1 {}), failedCheck (c 12 { fitted := true }),
      failedCheck { junction with stage := junction.stage.set 0 (nums 16 [1, 2]) },
      failedCheck { junction with detector := junction.detector.modify 1 fun d => { d with demand := nums 12 [5] } },
      failedCheck { junction with group := junction.group.modify 2 fun g => { g with redFloor := 2 } },
      failedCheck { junction with stage := Tab.const 12 (Tab.const 16 false), detector := Tab.const 24 {} }] =
    [some (3, 2, 0), some (4, 13, 0), some (5, 1, 1), some (6, 2, 5), some (7, 3, 0), some (8, 0, 0)] := by decide +kernel
/-- R60, R66, R69, R70: the refusals, item by item. -/
theorem witness_Plans_refused :
    (∀ p : Slot, (5 : Byte) ≠ number p) ∧ (planAt drafting 0).state ≠ .editing ∧
    [answers .planClose 0x0A [5] drafting, answers .planClose 0x0A [0] drafting, answers .planClose 0x0A [1] drafting,
      answers .planSelect 0x0C [5] drafting] =
      [[[2, 4, 0, 1, 0, 0]], [[2, 4, 0, 1, 0, 0]], [[2, 7, 0, 0, 0, 0]], [[2, 4, 0, 1, 0, 0]]] ∧
    ([[17, 0, 0, 0, 0, 1], [16, 0, 0, 24, 60, 1], [16, 0, 0, 23, 60, 0], [16, 0, 0, 23, 59, 5]].map fun b =>
      answers .scheduleWrite 0x0D b drafting) = [1, 4, 5, 6].map (fun n => [[2, 4, 0, n, 0, 0]]) ∧
    ([[0, 24, 0, 0], [7, 24, 60, 0], [7, 23, 60, 60], [7, 23, 59, 60]].map fun b =>
      answers .clockSet 0x0F b drafting) = [1, 2, 3, 4].map (fun n => [[2, 4, 0, n, 0, 0]]) ∧
    takes (ask 0x0D 1 [16, 0, 0, 24, 60, 1] drafting) 0x0D 1 [16, 0, 0, 24, 60, 1] = true ∧
    FirstOut [(1, 1 ≤ byteAt [16, 0, 0, 24, 60, 1] 0 ∧ byteAt [16, 0, 0, 24, 60, 1] 0 ≤ 16),
      (4, byteAt [16, 0, 0, 24, 60, 1] 3 ≤ 23)] 4 := by
  refine ⟨by decide, by decide +kernel, by decide +kernel, by decide +kernel, by decide +kernel, by decide +kernel, ?_⟩
  simp [FirstOut, byteAt]
/-- R46, R49, R50: RELEASE-HOLD with the gap expired and without; GO-ALL-RED past the floor wait (4.0 s of S1's groups),
before it, and in COMMIT toward a stage; each with its MODE report. -/
theorem witness_HoldRelease_sequencer :
    let kinds : State → State := fun s => { s with lnk := { s.lnk with kinds := Tab.const 10 true } }
    let hold : State → State := fun s => kinds { s with flt := { s.flt with mode := .hold } }
    let modes := fun t : State => (t.lnk.reports.filter (·.kind = .mode)).map fun r => (r.alarm, r.fields)
    let commit : State := kinds { running 4000 with seq := { (running 4000).seq with
      state := .commit, target := .stage 1 2, lead := some ⟨100, 300⟩ } }
    ran (.releaseHold 1 []) (ask 0x1D 1 [] (hold ending))
      (fun t => t.seq.state = .commit && t.seq.target = .stage 1 2 && modes t = [(false, [4, 3, 1, 0x1D])]) = true ∧
    ran (.releaseHold 1 []) (ask 0x1D 1 [] (hold (running 4000))) (fun t => t.seq = (running 4000).seq) = true ∧
    ran (.goAllRed 1 []) (ask 0x1A 1 [] (kinds (running 4000)))
      (fun t => t.seq.state = .commit && t.seq.target = .empty && modes t = [(true, [3, 5, 1, 0x1A])]) = true ∧
    ran (.goAllRed 1 []) (ask 0x1A 1 [] (running 3900)) (fun t => t.seq = (running 3900).seq) = true ∧
    ran (.goAllRed 1 []) (ask 0x1A 1 [] commit) (fun t => t.seq.target = .empty && t.seq.lead = some ⟨100, 300⟩ &&
      t.seq.switchOn.get (redOf 0) && t.seq.switchOn.get (amberOf 0) && !t.seq.switchOn.get (greenOf 1)) = true ∧
    ran (.goDark 1 []) (ask 0x1B 1 [] (kinds greenOn)) (fun t => modes t = [(true, [3, 1, 1, 0x1B])]) = true := by
  decide +kernel
/-- R50: the interstage of Case A ends in ALL-RED with its stage as the target: the stage begins and stays. -/
theorem witness_InterstageEnd_allRed :
    let s : State := { between 9400 .issued true with flt := { mode := .allRed, restartPermitted := true } }
    s.flt.inbox = [] ∧ (∃ g, (s.jds.stageSet 1).get g = true ∧ 0 < (s.jds.group.get g).floor) ∧
    ran .interstageEnd s (fun t => t.seq.state = .stage && t.seq.current = some 1 && t.flt.mode = .allRed) = true := by
  decide +kernel
/-- R26, R31, R54: D1 PRESENCE and ACTIVE holds its demand for S2 as S2 stops being current, which then starts the
maximum timer of S1; after an interstage begins no stage is current. -/
theorem witness_CommitLead_demands :
    let s : State := { committed with
      det := { record := tab 24 {} [(1, { active := true, contact := true })] }
      lnk := { kinds := Tab.const 10 true }
      seq := { committed.seq with current := some 1, position := some 2, target := .stage 0 0 } }
    let u : State := { s with jds := { junction with stage := junction.stage.set 1 (nums 16 [1, 3]) } }
    s.seq.current = some 1 ∧ s.jds.served 0 = true ∧ (s.jds.detector.get 0).demand.get 1 = true ∧
    s.jds.detKind 0 = .presence ∧ timetableFor s s.seq.target ≠ [] ∧ timetableFor u u.seq.target = [] ∧
    ran .commitLeadExpiry s (fun t => t.seq.current = none && t.seq.demand.get 1) = true ∧
    ran .commitLeadExpiry u (fun t => t.seq.current = some 0 && t.seq.demand.get 1 && t.seq.maximum = some 0 &&
      t.lnk.reports.map (fun r => (r.kind, r.fields)) = [(.powerUp, [0]), (.stageChange, [2, 1, 0, 0])]) = true ∧
    ran .commitLeadExpiry { u with det := {} } (fun t => !t.seq.demand.get 1 && t.seq.maximum = none) = true := by
  decide +kernel
/-- R36, R159: the end of S1 toward S2 lists the amber of G1, and the test in flight on it is abandoned. -/
theorem witness_StageEnd_abandons :
    let w : Test := { circuit := amberOf 0 }
    let s : State := { ending with cbl := { test := some w, pos := .on (amberOf 0) .load } }
    s.cbl.test = some w ∧
    ran .gapExpiry s (fun t => t.seq.switchOn.get (amberOf 0) && t.cbl.test = none &&
      (t.cbl.cable.get (amberOf 0)).abandons = 1 && t.cbl.pos = .releasing (amberOf 0) .load false &&
      t.cbl.release = some ⟨0, 100⟩) = true := by decide +kernel
/-- R97, R98: G1 from GREEN to AMBER and to RED-AMBER in LIVE: its green leaves at once, the wanted circuits enter behind
it, and the test in flight on one of them is abandoned; outside REDS-FIRST and LIVE the command is stored alone. -/
theorem witness_RelayCommands_group :
    let w : Test := { circuit := amberOf 0 }
    let s : State := { greenOn with cbl := { test := some w } }
    let seen := fun (t : State) => [redOf 0, amberOf 0, greenOf 0].map fun c =>
      ((relayAt t c).coil.commanded, (relayAt t c).entering)
    seen (groupCommand 0 .amber s) = [(false, false), (false, true), (false, false)] ∧
    seen (groupCommand 0 .redAmber s) = [(false, true), (false, true), (false, false)] ∧
    seen (groupCommand 0 .green s) = seen s ∧ seen s = [(false, false), (false, false), (true, false)] ∧
    seen (groupCommand 0 .red (groupCommand 0 .amber s)) = [(false, true), (false, false), (false, false)] ∧
    (groupCommand 0 .amber s).cbl.test = none ∧ (groupCommand 0 .red s).cbl.test = some w ∧
    dark.osw.phase = .outputsOff := by decide +kernel
/-- R42, R43: one HELD GREEN whose last flag the evaluation sets is issued; one that waits for another flag too stays. -/
theorem witness_Evaluations_held :
    let s := fun (other : Bool) => ({ reading 0 with
      lmp := { lamp := tab 48 {} [(1, { litRed with proof := false, avg := none }), (7, { proof := other })] }
      seq := { (between 9000 .held false).seq with commanded := (running 0).seq.commanded } } : State)
    let x := (s true).lmp.lamp.get 0
    let y := x.evaluated (s true) 0 0 521
    (s true).seq.state = .interstage ∧ x.proof = false ∧ y.proof = true ∧ evaluable (s true) 0 = true ∧
    ((s true).seq.timetable.all fun a => a.status ≠ .held || a.state = .green) = true ∧
    ran (.conversionComplete 521) (s true) (fun t => t.seq.commanded.get 1 = .green &&
      t.seq.timetable.all fun a => a.status = .issued) = true ∧
    ran (.conversionComplete 521) (s false) (fun t => t.seq.commanded.get 1 ≠ .green &&
      t.seq.timetable.map (·.status) = [.issued, .issued, .issued, .issued, .held]) = true ∧
    redOf 2 ≠ 0 ∧ junction.conflicts 1 2 = true ∧ ((s false).lmp.lamp.get (redOf 2)).proof = false := by decide +kernel
/-- R99, R101: G2's amber, not wanted and not OPEN, or not for the dead time, keeps its green entering; the injector on
that green is asked for, and its test abandoned. -/
theorem witness_DeadTime_blocked :
    let s := switching .open .green
    let amber := fun (k : Coil) => ({ s with osw := { s.osw with relay := s.osw.relay.set 4 { coil := k } } } : State)
    let w : Test := { circuit := 5 }
    let u : State := { s with cbl := { test := some w, pos := .on 5 .load } }
    groupOf 4 = groupOf 5 ∧ wanted s 4 = false ∧ s.jds.timing.deadTime = 30 ∧
    [amber { state := .opening }, amber { lastChange := some ⟨0, 29⟩ }].all (fun v =>
      ran (.deadTimeElapsed 3) v fun t => !(relayAt t 5).coil.commanded && (relayAt t 5).entering) = true ∧
    ran (.deadTimeElapsed 3) (amber { lastChange := some ⟨0, 30⟩ }) (fun t => (relayAt t 5).coil.commanded) = true ∧
    u.cbl.pos.circuit = some 5 ∧ (relayAt u 5).releaseAsked = false ∧
    ran (.deadTimeElapsed 3) u (fun t => (relayAt t 5).entering && (relayAt t 5).releaseAsked && t.cbl.test = none &&
      t.cbl.pos = .releasing 5 .load false && t.cbl.release = some ⟨0, 100⟩) = true := by decide +kernel
/-- R150, R159, R160: each condition of eligibility at its boundary, and each that draws a test off its circuit. -/
theorem witness_CableTests_eligible :
    let aged := fun ms => ({ dark with osw := { relay := tab 48 {} [(1, { coil := { lastChange := some ⟨0, ms⟩ } })] } } : State)
    let w : Test := { circuit := 0 }
    let s : State := { dark with cbl := { test := some w } }
    let inSet : State := { s with seq := { s.seq with switchOn := nums 48 [1] } }
    let entering : State := { s with osw := { s.osw with relay := tab 48 {} [(1, { entering := true })] } }
    let closing : State := { s with osw := { s.osw with relay := tab 48 {} [(1, { coil := { state := .closing } })] } }
    testEligible (aged 500) 0 = true ∧ testEligible (aged 499) 0 = false ∧ testEligible dark 7 = false ∧
    [inSet, entering, closing].all (fun v => !testEligible v 0 && (cblWatch v).cbl.test = none &&
      ((cblWatch v).cbl.cable.get 0).abandons = 1) = true ∧
    s.cbl.test = some w ∧ cblWatch s = s := by decide +kernel
/-- R170, R178: SUPPLY-LOSS CLEARED by FLT and the overflow set: FAULT-CLEAR clears the overflow and the junction starts;
each condition of auto restart alone keeps it DARK. -/
theorem witness_FaultClear_restart :
    let s : State := { dark with flt := { ({} : Flt) with
      mode := .dark, restartPermitted := true, darkCause := .fault .supplyLoss, overflow := true
      list := [⟨.supplyLoss, .none, .cleared, 0, 0, 1⟩] } }
    let u : State := { s with flt := { s.flt with overflow := false } }
    let b : List Byte := [b8 FaultKind.supplyLoss.code, 0]
    autoRestartNow u = true ∧ autoRestartNow s = false ∧
    [{ u with flt := { u.flt with restartPermitted := false } }, { u with flt := { u.flt with darkCause := .host } },
      { u with flt := { u.flt with list := [⟨.relayFailClosed, .circuit 1, .active, 0, 0, 1⟩] } },
      { u with flt := { u.flt with list := [⟨.conflict, .group 0, .active, 0, 0, 1⟩] } },
      { u with plans := {} }].all (fun v => !autoRestartNow v) = true ∧
    takes (ask 0x31 1 b s) 0x31 1 b = true ∧
    ran (.faultClear 1 b) (ask 0x31 1 b s) (fun t => t.flt.mode = .startUp && !t.flt.overflow && t.flt.list = []) = true ∧
    ran (.faultClearAll 1 [0, 0]) (ask 0x31 1 [0, 0] s) (fun t => t.flt.mode = .startUp) = true ∧
    ran (.faultClear 1 b) (ask 0x31 1 b u) (fun t => t.flt.mode = .dark && t.flt.list = []) = true := by decide +kernel
/-- R102, third pair, release first: C2 of G1 is entering for AMBER with the injector RELEASING as the entry that makes
G1 RED is due. Released alone it is energised at once; with the entry waiting it stays off, also after it; with another
command waiting that leaves it wanted, the moment's end energises it. -/
theorem witness_InjectorAndOverdue_third_pair :
    let s : State := { between 3000 .pending true with
      seq := { (between 3000 .pending true).seq with timetable := [⟨30, 0, .red, .pending, 0⟩] }
      osw := { (running 0).osw with
        stored := tab 16 .off [(1, .amber)], relay := tab 48 {} [(2, { entering := true, releaseAsked := true })] }
      cbl := { pos := .releasing 1 .load false, release := some ⟨10, 100⟩ } }
    let seen := fun (t : State) => ((relayAt t 1).coil.commanded, (relayAt t 1).entering, (relayAt t 1).switchCount)
    let after := fun (l : List Instr) (u : State) => l.foldl (fun (o : Option State) _ => o.bind fun v =>
      match step v with
      | .next t => some t
      | _ => none) (some u)
    let runs := fun (l more : List Instr) => (after (l ++ more) { s with pending := l }).map seen
    groupCommandWaits { s with pending := [.timetableEntryDue] } = true ∧
    runs [.injectorClear] [] = some (true, false, 1) ∧
    runs [.injectorClear, .timetableEntryDue] [] = some (false, false, 0) ∧
    runs [.injectorClear, .timetableEntryDue] [.gapTimeout] = some (false, false, 0) ∧
    (after [.gapTimeout] { s with pending := [.injectorClear, .timetableEntryDue] }).map
      (fun t => (seen t, t.osw.freed, (relayAt t 1).releaseAsked, t.cbl.pos)) =
      some ((false, true, 0), some 1, false, .free) ∧
    runs [.injectorClear, .conversionComplete 0] [] = some (false, true, 0) ∧
    runs [.injectorClear, .conversionComplete 0] [.gapTimeout] = some (true, false, 1) := by decide +kernel
theorem witness_IdleStep_freed :
    let s : State := { switching .open .green with osw := { (switching .open .green).osw with freed := some 5 } }
    s.pending = [] ∧ s.osw.freed = some 5 ∧
    ran (.deadTimeElapsed 3) s (fun t => !(relayAt t 5).coil.commanded && (relayAt t 5).entering) = true ∧
    (match step s with
     | .next t => (relayAt t 5).coil.commanded && t.osw.freed = none && t.uptime = 1
     | _ => false) = true := by decide +kernel
/-- R93, R159: START-UP from OUTPUTS-OFF with a test on C4, the red of G2; and in CONTACTOR-RELEASE. -/
theorem witness_StartUpBegins_outputs :
    let w : Test := { circuit := 3 }
    let s : State := { dark with cbl := { test := some w, pos := .on 3 .load } }
    let u := startUp (.request 0x18) s
    s.osw.phase = .outputsOff ∧ junction.used (groupOf 3) = true ∧ junction.fitted 3 = true ∧
    (relayAt s 3).coil.commanded = false ∧ u.osw.phase = .redsFirst ∧ (relayAt u 3).entering = true ∧
    (relayAt u 0).coil.commanded = true ∧ u.cbl.test = none ∧ u.cbl.pos = .releasing 3 .load false ∧
    (releasing .dark .opening).osw.phase = .contactorRelease ∧
    (startUp (.request 0x18) (releasing .dark .opening)).osw.phase = .contactorRelease := by decide +kernel
/-- R14: every report of an acceptance, in its order: the plan in force names an undefined stage, the schedule's choice
an EMPTY slot. -/
theorem witness_JunctionAccept_reports :
    let s : State := { editing with
      plans := { slot := tab 4 {} [(1, { state := .valid, id := 1, length := 1, entries := Tab.const 12 { stage := 11 } })]
                 inForce := some 0, clock := some ⟨0, 5, 0, 0⟩
                 schedule := tab 16 {} [(2, ⟨true, nums 7 [1], 4, 0, 2⟩)] }
      flt := { editing.flt with
        list := [⟨.lampOut, .circuit 1, .active, 0, 0, 1⟩, ⟨.conflict, .group 0, .active, 0, 0, 1⟩,
          ⟨.redOut, .group 1, .pendingRetest, 0, 0, 1⟩], output := true }
      lnk := { kinds := Tab.const 10 true, reports := [] } }
    ran (.junctionAccept 1 []) (ask 0x03 1 [] s) (fun t => t.lnk.reports.map (fun r => (r.kind, r.fields)) =
      [(.mode, [0, 1, 3, 0]), (.planChange, [1, 0, 3]), (.planUnavailable, [3]), (.faultCleared, [10, 1]),
        (.faultCleared, [7, 1])]) = true := by decide +kernel
/-- R162: a circuit resumed past twice its period posts TEST-OVERDUE after CABLE-STATE. -/
theorem witness_CableRequests_overdue :
    let s : State := { dark with
      cbl := { cable := tab 48 {} [(1, { suspended := true, dueFrom := ⟨0, 1200000⟩, lastTest := some ⟨7, 1200000⟩ })] }
      lnk := { kinds := Tab.const 10 true, reports := [] } }
    2 * ((s.jds.circuit.get 0).testPeriod * 60000) ≤ (s.cbl.cable.get 0).dueFrom.elapsed ∧
    ran (.cableResume 1 [1]) (ask 0x2C 1 [1] s) (fun t => (t.cbl.cable.get 0).overdue &&
      t.lnk.reports.map (fun r => (r.kind, r.fields)) =
        [(.cableState, [1, 0, 0]), (.testOverdue, [0, 1, 0, 0, 0, 7])]) = true := by decide +kernel
/-- R152: the open voltage is asked for as the test starts, and not while the slot holds another conversion. -/
theorem witness_CableTests_first_request :
    let s : State := { dark with mea := { ({} : Mea) with
      cbl := .converting ⟨.voltage 9, 0, false⟩, conv := some ⟨.cbl, 0, 10000, 0⟩ } }
    dark.mea.cbl = .empty ∧ s.mea.cbl ≠ .empty ∧ testEligible s 0 = true ∧ s.cbl.test = none ∧
    ran (.cableEligibilityTime 0) dark (fun t => t.cbl.test = some { circuit := 0, placed := true } &&
      (t.mea.cbl = .waiting ⟨.voltage 0, 0, false⟩ || t.mea.cbl = .converting ⟨.voltage 0, 0, false⟩)) = true ∧
    ran (.cableEligibilityTime 0) s (fun t => t.cbl.test = some { circuit := 0, placed := false }) = true := by
  decide +kernel
/-- R206: G17, a subject for SUPPLY-LOSS, none for LAMP-OUT, and all with a subject. -/
theorem witness_FaultClear_subjects :
    subject? .conflict 17 = none ∧ subject? .supplyLoss 1 = none ∧ subject? .lampOut 0 = none ∧
    subject? .detectorSilent 24 = some (.detector 23) ∧ takes (ask 0x31 1 [1, 17] dark) 0x31 1 [1, 17] = true ∧
    [answers .faultClear 0x31 [1, 17] dark, answers .faultClear 0x31 [b8 FaultKind.supplyLoss.code, 1] dark,
      answers .faultClear 0x31 [b8 FaultKind.lampOut.code, 0] dark, answers .faultClearAll 0x31 [0, 1] dark] =
      List.replicate 4 [[2, 4, 0, 2, 0, 0]] := by decide +kernel
/-- R33: the end of MINIMUM in a FIXED-TIME plan, at its fixed duration and before it. -/
theorem witness_MinimumGreen_fixed :
    let s := fun n : Nat => ({ minimum with plans := { minimum.plans with
      slot := minimum.plans.slot.modify 0 fun p => { p with
        mode := .fixedTime, entries := p.entries.modify 0 fun x => { x with fixed := n } } } } : State)
    inDemandPlan (s 40) = false ∧ (s 40).seq.pendingAdvance = none ∧
    (runningEntry (s 40)).map (fun x => max x.fixed x.minGreen) = some (4000 / 100) ∧
    ran .minimumGreenExpiry (s 40) (fun t => t.seq.state = .commit) = true ∧
    ran .minimumGreenExpiry (s 41) (fun t => t.seq.state = .stage && t.seq.substate = some .running) = true := by
  decide +kernel

end Sys2Proof.Tests
end

section
/-! PROOF. A step on an empty queue is one millisecond (R1; logs 2, 44, 47): what `tick` does to each numbered record
and under each condition, said once, and `Obligations.IdleStepIsOneMillisecond` from it. -/

namespace Sys2Proof.Machine

variable (s : State)

/-! ### One millisecond of a numbered record -/

@[simp] theorem relayAt_tick (c : Circuit) :
    relayAt (tick s) c = { relayAt s c with coil := (relayAt s c).coil.tick } := Tab.get_map _ _ c

@[simp] theorem recOf_tick (d : Detector) : recOf (tick s) d = (recOf s d).tick := Tab.get_map _ _ d

@[simp] theorem cableAt_tick (c : Circuit) :
    cableAt (tick s) c = { cableAt s c with
      lastTest := later (cableAt s c).lastTest, dueFrom := (cableAt s c).dueFrom.tick } := Tab.get_map _ _ c

@[simp] theorem leg_tick (g : Group) : (tick s).seq.leg.get g = later (s.seq.leg.get g) := Tab.get_map _ _ g

/-! ### A millisecond that a condition withholds -/

/-- R30: a held gap timer shows 0. -/
theorem gap_tick :
    (tick s).seq.gap = if gapHeld s then s.seq.gap.map fun _ => 0 else s.seq.gap.map stageMs := by
  cases h : gapHeld s <;> simp [tick, Seq.tick, h]

/-- R69: an unset clock does not run. -/
theorem plans_tick :
    (tick s).plans = { s.plans with
      clockMs := if s.plans.clock = none then s.plans.clockMs else s.plans.clockMs + 1 } := by
  cases h : s.plans.clock <;> simp [tick, Plans.tick, h]

/-- R74, log 44: without an ACCEPTED description the chatter interval stands still. -/
theorem intervalMs_tick :
    (tick s).det.intervalMs = if s.jds.desc = .accepted then s.det.intervalMs + 1 else s.det.intervalMs := by
  simp [tick, Det.tick, Jds.accepted]

end Sys2Proof.Machine

namespace Sys2Proof.Proofs

open Sys2Proof Sys2Proof.Machine

/-- Settles O2: the step is `tick` on the state at the moment's end, which is the state found or, where a circuit's
judgement has waited, the state after it. The key fact `tick_passes` reads `tick` off block by block, for any state. -/
theorem idleStepIsOneMillisecond : Obligations.IdleStepIsOneMillisecond := by
  unfold Obligations.IdleStepIsOneMillisecond
  intro passes
  have tick_passes (s : State) : passes s (tick s) := by
    refine ⟨rfl, rfl, ?relayChange, rfl, ?lastTest, ?dueFrom, ?activeSince, ?silentSince, rfl, leg_tick s,
      rfl, rfl, rfl, rfl, gap_tick s, ?relayTimer, rfl, ?detTimer, rfl, rfl, rfl, rfl, plans_tick s, intervalMs_tick s,
      ?record, ?relay, rfl, rfl, ?cable, rfl, rfl⟩
    case relayChange => exact fun c => congrArg (·.coil.lastChange) (relayAt_tick s c)
    case relayTimer => exact fun c => congrArg (·.coil.timer) (relayAt_tick s c)
    case relay => intro c; rw [relayAt_tick]; rfl
    case lastTest => exact fun c => congrArg (·.lastTest) (cableAt_tick s c)
    case dueFrom => exact fun c => congrArg (some ·.dueFrom) (cableAt_tick s c)
    case cable => intro c; rw [cableAt_tick]
    case activeSince => exact fun d => congrArg (·.activeSince) (recOf_tick s d)
    case silentSince => exact fun d => congrArg (·.silentSince) (recOf_tick s d)
    case detTimer => exact fun d => congrArg (·.timer) (recOf_tick s d)
    case record => intro d; rw [recOf_tick]; rfl
  constructor
  · intro s hpending hfreed
    refine ⟨_, ?_, tick_passes s⟩
    rw [step_of_empty hpending, endMoment_of_none hfreed]
  · intro c s hpending hfreed
    have hend : endMoment s = conclude (oswAfter { s with osw := { s.osw with freed := none } }) :=
      endMoment_of_some hfreed
    refine ⟨_, ?_, tick_passes _⟩
    rw [step_of_empty hpending, hend]

end Sys2Proof.Proofs
end

section
/-! PROOF. The acceptance checks (R14 to R16): what a search in number order finds, what each check finds by that, and
`Obligations.AcceptedConflictsAndIntergreens` from it. -/

namespace Sys2Proof

variable {n : Nat} {β : Type}

/-! ### Searches in number order -/

theorem allFin_sorted (n : Nat) : (allFin n).Pairwise (· < ·) := List.pairwise_lt_finRange n

@[simp] theorem mem_allFin (i : Fin n) : i ∈ allFin n := List.mem_finRange i

/-- In a sorted list the search finds the least index at which it succeeds. -/
theorem findSome?_of_least {l : List (Fin n)} (hl : l.Pairwise (· < ·)) {f : Fin n → Option β} {a : Fin n} {y : β}
    (hmem : a ∈ l) (ha : f a = some y) (hlt : ∀ b, b < a → f b = none) : l.findSome? f = some y := by
  induction l with
  | nil => simp at hmem
  | cons b l ih =>
    obtain ⟨hb, hl⟩ := List.pairwise_cons.mp hl
    rcases List.mem_cons.mp hmem with rfl | hmem
    · simp [ha]
    · simp [hlt b (hb a hmem), ih hl hmem]

theorem allFin_findSome?_eq_some {f : Fin n → Option β} {a : Fin n} {y : β} (ha : f a = some y)
    (hlt : ∀ b, b < a → f b = none) : (allFin n).findSome? f = some y :=
  findSome?_of_least (allFin_sorted n) (mem_allFin a) ha hlt

theorem allFin_findSome?_eq_none {f : Fin n → Option β} : (allFin n).findSome? f = none ↔ ∀ i, f i = none := by
  simp [List.findSome?_eq_none_iff]

theorem allFin_find?_eq_none {p : Fin n → Bool} : (allFin n).find? p = none ↔ ∀ i, ¬p i = true := by
  simp [List.find?_eq_none]

theorem allFin_find?_eq_some {p : Fin n → Bool} {a : Fin n} (ha : p a = true) (hle : ∀ b, p b = true → a ≤ b) :
    (allFin n).find? p = some a := by
  rw [List.find?_eq_findSome?_guard]
  refine allFin_findSome?_eq_some (a := a) (by simp [ha]) fun b hb => ?_
  have hb' : ¬p b = true := fun h => absurd (hle b h) (not_le.mpr hb)
  simp [hb']

/-- A search for a pair: the least first index, and with it the least second one. -/
theorem allFin_pair_eq_some {m : Nat} {p : Fin n → Fin m → Bool} (f : Fin n → Fin m → β) {a : Fin n} {b : Fin m}
    (hp : p a b = true) (hle : ∀ c d, p c d = true → a < c ∨ (a = c ∧ b ≤ d)) :
    ((allFin n).findSome? fun i => ((allFin m).find? (p i)).map (f i)) = some (f a b) := by
  refine allFin_findSome?_eq_some (a := a) ?_ fun c hc => ?_
  · rw [allFin_find?_eq_some hp fun d hd => ?_, Option.map_some]
    rcases hle a d hd with h | ⟨-, h⟩
    · exact absurd h (lt_irrefl a)
    · exact h
  · rw [Option.map_eq_none_iff, allFin_find?_eq_none]
    intro d hd
    rcases hle c d hd with h | ⟨rfl, -⟩
    · exact absurd h (not_lt.mpr hc.le)
    · exact lt_irrefl _ hc

theorem allFin_pair_eq_none {m : Nat} {p : Fin n → Fin m → Bool} {f : Fin n → Fin m → β} :
    ((allFin n).findSome? fun i => ((allFin m).find? (p i)).map (f i)) = none ↔ ∀ i k, ¬p i k = true := by
  simp only [allFin_findSome?_eq_none, Option.map_eq_none_iff, allFin_find?_eq_none]

/-- A search among the members of a set goes through all indices in order. -/
theorem members_find? (t : Flags n) (p : Fin n → Bool) :
    t.members.find? p = (allFin n).find? fun i => t.get i && p i := by
  simp [Tab.members, List.find?_filter]

theorem none?_iff (t : Flags n) : t.none? = true ↔ ¬∃ i, t.get i = true := by
  unfold Tab.none?
  obtain ⟨l, hl⟩ := t
  simp only [List.all_eq_true, Bool.not_eq_true', not_exists, Bool.not_eq_true, Tab.get]
  constructor
  · exact fun h i => h _ (List.getElem_mem _)
  · intro h b hb
    obtain ⟨i, hi, rfl⟩ := List.getElem_of_mem hb
    exact h ⟨i, hl ▸ hi⟩

end Sys2Proof

namespace Sys2Proof.Machine

variable {j : Jds}

/-! ### What makes each check fail, as R15 and R16 say it -/

/-- Check 1 at the pair (g, n). -/
def RowsDisagree (j : Jds) (g n : Group) : Prop :=
  if n = g then j.conflicts g g = true else j.conflicts g n ≠ j.conflicts n g

/-- Check 2 at the pair (l, n). -/
def IntergreenShort (j : Jds) (l n : Group) : Prop :=
  j.conflicts l n = true ∧ ¬(1 ≤ j.ig l n ∧
    ((j.group.get l).kind = .vehicle → (j.group.get l).amber ≤ j.ig l n) ∧
    ((j.group.get l).kind = .pedestrian → (j.group.get l).clearance ≤ j.ig l n))

/-- Check 3 at a circuit. -/
def FittingWrong (j : Jds) (c : Circuit) : Prop :=
  (j.group.get (groupOf c)).kind ≠ .unused ∧
    ¬(if aspectOf c = .amber ∧ (j.group.get (groupOf c)).kind = .pedestrian then ¬(j.circuit.get c).fitted = true
      else (j.circuit.get c).fitted = true)

/-- Check 4 at a circuit. -/
def FittedUnused (j : Jds) (c : Circuit) : Prop :=
  (j.circuit.get c).fitted = true ∧ (j.group.get (groupOf c)).kind = .unused

/-- Check 5 at a stage and a group. -/
def StageGroupWrong (j : Jds) (k : Stage) (g : Group) : Prop :=
  (j.stage.get k).get g = true ∧ ((j.group.get g).kind = .unused ∨
    ∃ n, n ≠ g ∧ (j.stage.get k).get n = true ∧ j.conflicts g n = true)

/-- Check 6 at a detector, its demand set or (`extend`) its extend set, and a stage. -/
def NamesUndefined (j : Jds) (d : Detector) (extend : Bool) (k : Stage) : Prop :=
  (j.detector.get d).kind ≠ .unused ∧ (¬∃ g, (j.stage.get k).get g = true) ∧
    (if extend then (j.detector.get d).extend else (j.detector.get d).demand).get k = true

/-- Check 7 at a group. -/
def RedFloorWrong (j : Jds) (g : Group) : Prop :=
  (j.group.get g).kind ≠ .unused ∧
    ¬(1 ≤ (j.group.get g).redFloor ∧ (j.group.get g).redFloor ≤ (j.circuit.get (redOf g)).lamps)

/-! ### The checks -/

/-- R15: below the least intergreen of its group is below 1, or below the amber of a vehicle group or the clearance of a
pedestrian one. -/
theorem lt_leastIntergreen_iff (r : GroupRec) (i : Nat) : i < leastIntergreen r ↔
    ¬(1 ≤ i ∧ (r.kind = .vehicle → r.amber ≤ i) ∧ (r.kind = .pedestrian → r.clearance ≤ i)) := by
  unfold leastIntergreen
  cases r.kind <;> simp <;> omega


/-- Check 1: a pair fails exactly where the rows disagree. -/
theorem check1_fails_iff (j : Jds) (g n : Group) :
    (if g = n then j.conflicts g g else decide (j.conflicts g n ≠ j.conflicts n g)) = true ↔ RowsDisagree j g n := by
  unfold RowsDisagree
  by_cases h : g = n
  · simp [h]
  · simp [h, Ne.symm h]

theorem check1_eq_none_iff : check1 j = none ↔ ∀ g n, ¬RowsDisagree j g n := by
  simp only [check1, firstPair, allFin_pair_eq_none, check1_fails_iff]

theorem check1_eq_some {g n : Group} (h : RowsDisagree j g n)
    (hle : ∀ h m, RowsDisagree j h m → g < h ∨ (g = h ∧ n ≤ m)) : check1 j = some (number g, number n) :=
  allFin_pair_eq_some (fun a b => (number a, number b)) ((check1_fails_iff j g n).mpr h) fun c d hd =>
    hle c d ((check1_fails_iff j c d).mp hd)

/-- Check 2: a pair fails exactly where its intergreen is short. -/
theorem check2_fails_iff (j : Jds) (l n : Group) :
    (j.conflicts l n && decide (j.ig l n < leastIntergreen (j.group.get l))) = true ↔ IntergreenShort j l n := by
  simp only [IntergreenShort, Bool.and_eq_true, decide_eq_true_eq, lt_leastIntergreen_iff]

theorem check2_eq_none_iff : check2 j = none ↔ ∀ l n, ¬IntergreenShort j l n := by
  simp only [check2, firstPair, allFin_pair_eq_none, check2_fails_iff]

theorem check2_eq_some {l n : Group} (h : IntergreenShort j l n)
    (hle : ∀ h m, IntergreenShort j h m → l < h ∨ (l = h ∧ n ≤ m)) : check2 j = some (number l, number n) :=
  allFin_pair_eq_some (fun a b => (number a, number b)) ((check2_fails_iff j l n).mpr h) fun c d hd =>
    hle c d ((check2_fails_iff j c d).mp hd)

/-- R3: the circuits by number are those of the groups by number. -/
theorem allFin_circuits : allFin 48 = (allFin 16).flatMap circuitsOf := by decide

theorem groupOf_of_mem {c : Circuit} {g : Group} (h : c ∈ circuitsOf g) : groupOf c = g := by
  simp only [circuitsOf, List.mem_cons, List.not_mem_nil, or_false] at h
  rcases h with rfl | rfl | rfl <;> simp [Fin.ext_iff, groupOf, redOf, amberOf, greenOf] <;> omega

/-- Check 3 goes through the circuits by number. -/
theorem check3_eq (j : Jds) : check3 j =
    ((allFin 48).find? fun c => decide ((j.group.get (groupOf c)).kind ≠ .unused) && !fittedAsKind j (groupOf c) c).map
      fun c => (number c, 0) := by
  rw [allFin_circuits, List.find?_flatMap, List.map_findSome?, check3]
  congr 1
  funext g
  have hgroup : (circuitsOf g).find? (fun c =>
        decide ((j.group.get (groupOf c)).kind ≠ .unused) && !fittedAsKind j (groupOf c) c) =
      (circuitsOf g).find? fun c => decide ((j.group.get g).kind ≠ .unused) && !fittedAsKind j g c := by
    refine List.find?_congr fun c hc => ?_
    rw [groupOf_of_mem hc]
  simp only [Function.comp_apply, hgroup]
  by_cases hkind : (j.group.get g).kind = .unused <;> simp [hkind]

theorem check3_fails_iff (j : Jds) (c : Circuit) :
    (decide ((j.group.get (groupOf c)).kind ≠ .unused) && !fittedAsKind j (groupOf c) c) = true ↔ FittingWrong j c := by
  by_cases h : aspectOf c = .amber ∧ (j.group.get (groupOf c)).kind = .pedestrian <;>
    simp [FittingWrong, fittedAsKind, h]

theorem check3_eq_none_iff : check3 j = none ↔ ∀ c, ¬FittingWrong j c := by
  simp only [check3_eq, Option.map_eq_none_iff, allFin_find?_eq_none, check3_fails_iff]

theorem check3_eq_some {c : Circuit} (h : FittingWrong j c) (hle : ∀ e, FittingWrong j e → c ≤ e) :
    check3 j = some (number c, 0) := by
  rw [check3_eq, allFin_find?_eq_some ((check3_fails_iff j c).mpr h) fun e he => hle e ((check3_fails_iff j e).mp he)]
  rfl

theorem check4_fails_iff (j : Jds) (c : Circuit) :
    ((j.circuit.get c).fitted && decide ((j.group.get (groupOf c)).kind = .unused)) = true ↔ FittedUnused j c := by
  simp only [FittedUnused, Bool.and_eq_true, decide_eq_true_eq]

theorem check4_eq_none_iff : check4 j = none ↔ ∀ c, ¬FittedUnused j c := by
  simp only [check4, Option.map_eq_none_iff, allFin_find?_eq_none, check4_fails_iff]

theorem check4_eq_some {c : Circuit} (h : FittedUnused j c) (hle : ∀ e, FittedUnused j e → c ≤ e) :
    check4 j = some (number c, 0) := by
  rw [check4, allFin_find?_eq_some ((check4_fails_iff j c).mpr h) fun e he => hle e ((check4_fails_iff j e).mp he)]
  rfl

/-- Check 5: a group of a stage fails exactly where it is UNUSED or conflicts with another of the stage. -/
theorem check5_fails_iff (j : Jds) (k : Stage) (g : Group) :
    ((j.stage.get k).get g && (decide ((j.group.get g).kind = .unused) ||
      (j.stage.get k).members.any fun n => decide (n ≠ g) && j.conflicts g n)) = true ↔ StageGroupWrong j k g := by
  simp [StageGroupWrong, Tab.members, and_left_comm]

theorem check5_eq_none_iff : check5 j = none ↔ ∀ k g, ¬StageGroupWrong j k g := by
  simp only [check5, members_find?, allFin_pair_eq_none, check5_fails_iff]

theorem check5_eq_some {k : Stage} {g : Group} (h : StageGroupWrong j k g)
    (hle : ∀ l m, StageGroupWrong j l m → k < l ∨ (k = l ∧ g ≤ m)) : check5 j = some (number k, number g) := by
  simp only [check5, members_find?]
  exact allFin_pair_eq_some (fun a b => (number a, number b)) ((check5_fails_iff j k g).mpr h) fun c d hd =>
    hle c d ((check5_fails_iff j c d).mp hd)

/-- The first stage of a detector's demand set, or extend set, that is not defined. -/
def undefinedIn (j : Jds) (d : Detector) (extend : Bool) : Option Stage :=
  (allFin 12).find? fun k =>
    (if extend then (j.detector.get d).extend else (j.detector.get d).demand).get k && (j.stage.get k).none?

/-- Check 6 at one detector: the demand set, then the extend set. -/
def firstUndefined (j : Jds) (d : Detector) : Option Stage :=
  if (j.detector.get d).kind = .unused then none else (undefinedIn j d false).or (undefinedIn j d true)

theorem check6_eq (j : Jds) : check6 j =
    (allFin 24).findSome? fun d => (firstUndefined j d).map fun k => (number d, number k) := by
  unfold check6 firstUndefined undefinedIn
  congr 1
  funext d
  by_cases h : (j.detector.get d).kind = .unused <;> simp [h, List.find?_append, members_find?]

theorem check6_fails_iff {d : Detector} (hkind : (j.detector.get d).kind ≠ .unused) (extend : Bool) (k : Stage) :
    ((if extend then (j.detector.get d).extend else (j.detector.get d).demand).get k && (j.stage.get k).none?) = true ↔
      NamesUndefined j d extend k := by
  simp only [NamesUndefined, Bool.and_eq_true, none?_iff, hkind, ne_eq, not_false_eq_true, true_and, and_comm]

theorem undefinedIn_eq_none_iff {d : Detector} (hkind : (j.detector.get d).kind ≠ .unused) (x : Bool) :
    undefinedIn j d x = none ↔ ∀ k, ¬NamesUndefined j d x k := by
  simp only [undefinedIn, allFin_find?_eq_none, check6_fails_iff hkind]

theorem undefinedIn_eq_some {d : Detector} {x : Bool} {k : Stage} (h : NamesUndefined j d x k)
    (hle : ∀ l, NamesUndefined j d x l → k ≤ l) : undefinedIn j d x = some k :=
  allFin_find?_eq_some ((check6_fails_iff h.1 x k).mpr h) fun l hl => hle l ((check6_fails_iff h.1 x l).mp hl)

theorem firstUndefined_eq_none_iff (d : Detector) :
    firstUndefined j d = none ↔ ∀ x k, ¬NamesUndefined j d x k := by
  unfold firstUndefined
  split
  next h => simp [NamesUndefined, h]
  next h => simp only [Option.or_eq_none_iff, undefinedIn_eq_none_iff h, Bool.forall_bool]

/-- The demand set comes before the extend set, and in each the stages come by number. -/
theorem firstUndefined_eq_some {d : Detector} {x : Bool} {k : Stage} (h : NamesUndefined j d x k)
    (hle : ∀ y l, NamesUndefined j d y l → (x = false ∧ y = true) ∨ (x = y ∧ k ≤ l)) :
    firstUndefined j d = some k := by
  rw [firstUndefined, if_neg h.1]
  have found : undefinedIn j d x = some k := undefinedIn_eq_some h fun l hl => by simpa using hle x l hl
  cases x with
  | false => rw [found, Option.some_or]
  | true =>
    have demandless : undefinedIn j d false = none :=
      (undefinedIn_eq_none_iff h.1 false).mpr fun l hl => by simpa using hle false l hl
    rw [demandless, Option.none_or, found]

theorem check6_eq_none_iff : check6 j = none ↔ ∀ d x k, ¬NamesUndefined j d x k := by
  simp only [check6_eq, allFin_findSome?_eq_none, Option.map_eq_none_iff, firstUndefined_eq_none_iff]

theorem check6_eq_some {d : Detector} {x : Bool} {k : Stage} (h : NamesUndefined j d x k)
    (hle : ∀ e y l, NamesUndefined j e y l → d < e ∨ (d = e ∧ ((x = false ∧ y = true) ∨ (x = y ∧ k ≤ l)))) :
    check6 j = some (number d, number k) := by
  rw [check6_eq]
  refine allFin_findSome?_eq_some (a := d) ?_ fun e he => ?_
  · rw [firstUndefined_eq_some h fun y l hl => ?_, Option.map_some]
    exact ((hle d y l hl).resolve_left (lt_irrefl d)).2
  · rw [Option.map_eq_none_iff, firstUndefined_eq_none_iff]
    intro y l hl
    rcases hle e y l hl with h | ⟨rfl, -⟩
    · exact lt_asymm h he
    · exact lt_irrefl _ he

theorem check7_fails_iff (j : Jds) (g : Group) :
    (decide ((j.group.get g).kind ≠ .unused) &&
      !inRange (j.group.get g).redFloor 1 (j.circuit.get (redOf g)).lamps) = true ↔ RedFloorWrong j g := by
  simp only [RedFloorWrong, inRange, Bool.and_eq_true, decide_eq_true_eq, Bool.not_eq_true', ← Bool.not_eq_true]

theorem check7_eq_none_iff : check7 j = none ↔ ∀ g, ¬RedFloorWrong j g := by
  simp only [check7, Option.map_eq_none_iff, allFin_find?_eq_none, check7_fails_iff]

theorem check7_eq_some {g : Group} (h : RedFloorWrong j g) (hle : ∀ m, RedFloorWrong j m → g ≤ m) :
    check7 j = some (number g, 0) := by
  rw [check7, allFin_find?_eq_some ((check7_fails_iff j g).mpr h) fun m hm => hle m ((check7_fails_iff j m).mp hm)]
  rfl

theorem check8_passes_iff (j : Jds) :
    ((allFin 12).any fun k => !(j.stage.get k).none?) = true ↔ ∃ k g, (j.stage.get k).get g = true := by
  simp only [List.any_eq_true, mem_allFin, true_and, Bool.not_eq_true', ← Bool.not_eq_true, none?_iff, not_not]

theorem check8_eq_none_iff : check8 j = none ↔ ∃ k g, (j.stage.get k).get g = true := by
  rw [← check8_passes_iff, check8]
  simp only [ite_eq_left_iff, reduceCtorEq, imp_false, not_not]

theorem check8_eq_some (h : ¬∃ k g, (j.stage.get k).get g = true) : check8 j = some (0, 0) := by
  rw [check8, if_neg (mt (check8_passes_iff j).mp h)]

theorem failedCheck_eq_none_iff : failedCheck j = none ↔
    check1 j = none ∧ check2 j = none ∧ check3 j = none ∧ check4 j = none ∧ check5 j = none ∧ check6 j = none ∧
    check7 j = none ∧ check8 j = none := by
  simp [failedCheck]

end Sys2Proof.Machine

namespace Sys2Proof.Proofs

open Sys2Proof Sys2Proof.Machine

/-- Settles O23: what each check finds, and that it finds nothing where nothing fails, put together by R14's order. -/
theorem acceptedConflictsAndIntergreens : Obligations.AcceptedConflictsAndIntergreens := by
  unfold Obligations.AcceptedConflictsAndIntergreens
  intro j kind fitted inStage defined bad1 bad2 bad3 bad4 bad5 bad6 bad7 ok1 ok2 ok3 ok4 ok5 ok6 ok7
  have pass1 : ok1 → check1 j = none := check1_eq_none_iff.mpr
  have pass2 : ok2 → check1 j = none ∧ check2 j = none := fun ⟨h, h2⟩ => ⟨pass1 h, check2_eq_none_iff.mpr h2⟩
  have pass3 : ok3 → _ ∧ check3 j = none := fun ⟨h, h3⟩ => ⟨pass2 h, check3_eq_none_iff.mpr h3⟩
  have pass4 : ok4 → _ ∧ check4 j = none := fun ⟨h, h4⟩ => ⟨pass3 h, check4_eq_none_iff.mpr h4⟩
  have pass5 : ok5 → _ ∧ check5 j = none := fun ⟨h, h5⟩ => ⟨pass4 h, check5_eq_none_iff.mpr h5⟩
  have pass6 : ok6 → _ ∧ check6 j = none := fun ⟨h, h6⟩ => ⟨pass5 h, check6_eq_none_iff.mpr h6⟩
  have pass7 : ok7 → _ ∧ check7 j = none := fun ⟨h, h7⟩ => ⟨pass6 h, check7_eq_none_iff.mpr h7⟩
  refine ⟨?first1, ?first2, ?first3, ?first4, ?first5, ?first6, ?first7, ?first8, ?passes, ?ensures⟩
  case first1 =>
    intro g n h hle
    simp [failedCheck, check1_eq_some h hle]
  case first2 =>
    intro ok l n h hle
    simp [failedCheck, pass1 ok, check2_eq_some h hle]
  case first3 =>
    intro ok c h hle
    simp [failedCheck, pass2 ok, check3_eq_some h hle]
  case first4 =>
    intro ok c h hle
    simp [failedCheck, pass3 ok, check4_eq_some h hle]
  case first5 =>
    intro ok k g h hle
    simp [failedCheck, pass4 ok, check5_eq_some h hle]
  case first6 =>
    intro ok d x k h hle
    simp [failedCheck, pass5 ok, check6_eq_some h hle]
  case first7 =>
    intro ok g h hle
    simp [failedCheck, pass6 ok, check7_eq_some h hle]
  case first8 =>
    intro ok h
    simp [failedCheck, pass7 ok, check8_eq_some (not_exists.mpr h)]
  case passes =>
    intro ok h
    simp [failedCheck_eq_none_iff, pass7 ok, check8_eq_none_iff.mpr h]
  case ensures =>
    intro h
    obtain ⟨h1, h2, -, -, h5, -, -, h8⟩ := failedCheck_eq_none_iff.mp h
    have mutualRows := check1_eq_none_iff.mp h1
    refine ⟨fun g => ?_, fun g n => ?_, fun l n hln => ?_, fun k g n hg hn hne => ?_, check8_eq_none_iff.mp h8⟩
    · simpa [RowsDisagree] using mutualRows g g
    · by_cases hgn : n = g
      · rw [hgn]
      · simpa [RowsDisagree, hgn] using mutualRows g n
    · exact not_not.mp fun hshort => check2_eq_none_iff.mp h2 l n ⟨hln, hshort⟩
    · rw [← Bool.not_eq_true]
      exact fun hc => check5_eq_none_iff.mp h5 k g ⟨hg, .inr ⟨n, hne.symm, hn, hc⟩⟩

end Sys2Proof.Proofs
end

section
/-! PROOF. What operations shared by many commands leave behind: postings, a request served, the placing of
measurements. -/

namespace Sys2Proof

variable {α : Type} {n : Nat}

theorem Tab.modify_eq_self (t : Tab α n) (i : Fin n) {f : α → α} (h : f (t.get i) = t.get i) : t.modify i f = t := by
  refine Tab.ext_get fun k => ?_
  rw [Tab.get_modify]
  split
  next hik => rw [← hik, h]
  next => rfl

/-- Changing the entries of a list of indices one after the other changes each of them once. -/
theorem Tab.get_foldl_modify (f : α → α) (i : Fin n) {l : List (Fin n)} (hl : l.Nodup) (t : Tab α n) :
    (l.foldl (fun t k => t.modify k f) t).get i = if i ∈ l then f (t.get i) else t.get i := by
  induction l generalizing t with
  | nil => simp
  | cons k l ih =>
    obtain ⟨hk, hl⟩ := List.nodup_cons.mp hl
    rw [List.foldl_cons, ih hl, Tab.get_modify]
    by_cases hik : k = i
    · subst hik; simp [hk]
    · simp [hik, Ne.symm hik]

theorem Tab.allFin_foldl_modify (f : α → α) (t : Tab α n) :
    (allFin n).foldl (fun t k => t.modify k f) t = t.map f := by
  refine Tab.ext_get fun i => ?_
  rw [Tab.get_foldl_modify f i (l := allFin n) (List.nodup_finRange n), if_pos (mem_allFin i), Tab.get_map]

end Sys2Proof

namespace Sys2Proof.Machine

variable {s t u : State}

/-! ### Postings -/

/-- R194, R195: the link after one posting. -/
def Lnk.posting (now : Uptime) (q : Lnk) (x : Posting) : Lnk :=
  if q.wants x.1 x.2.1 then q.enqueue ⟨x.1, x.2.1, now, x.2.2.1, 0, x.2.2.2⟩ else q

/-- The link after these postings at one uptime. -/
def Lnk.posted (now : Uptime) (l : List Posting) (q : Lnk) : Lnk := l.foldl (Lnk.posting now) q

theorem post_eq (k : ReportKind) (a : Bool) (j : RSubject) (l : List Byte) (s : State) :
    post k a j l s = { s with lnk := s.lnk.posted s.uptime [(k, a, j, l)] } := rfl

theorem posts_eq (l : List Posting) (s : State) : posts l s = { s with lnk := s.lnk.posted s.uptime l } := by
  induction l generalizing s with
  | nil => rfl
  | cons x l ih => exact ih _

@[simp] theorem Lnk.posted_nil (now : Uptime) (q : Lnk) : q.posted now [] = q := rfl

@[simp] theorem Lnk.posted_cons (now : Uptime) (x : Posting) (l : List Posting) (q : Lnk) :
    q.posted now (x :: l) = (q.posting now x).posted now l := rfl

theorem Lnk.posted_append (now : Uptime) (l m : List Posting) (q : Lnk) :
    q.posted now (l ++ m) = (q.posted now l).posted now m := List.foldl_append ..

/-- R194: what admissions to the report queue read and write of the link. -/
def Lnk.SameReports (p q : Lnk) : Prop :=
  q.reports = p.reports ∧ q.lost = p.lost ∧ q.kinds = p.kinds ∧ q.tx = p.tx

/-- R194: an admission writes the report queue and the lost count alone. -/
theorem Lnk.enqueue_frame (r : Report) (q : Lnk) :
    q.enqueue r = { q with reports := (q.enqueue r).reports, lost := (q.enqueue r).lost } := by
  unfold Lnk.enqueue Lnk.append
  repeat' split
  all_goals rfl

theorem Lnk.posting_frame (now : Uptime) (x : Posting) (q : Lnk) :
    q.posting now x = { q with reports := (q.posting now x).reports, lost := (q.posting now x).lost } := by
  unfold Lnk.posting
  split
  · exact Lnk.enqueue_frame _ q
  · rfl

theorem Lnk.posted_frame (now : Uptime) (l : List Posting) (q : Lnk) :
    q.posted now l = { q with reports := (q.posted now l).reports, lost := (q.posted now l).lost } := by
  induction l generalizing q with
  | nil => rfl
  | cons x l ih =>
    rw [Lnk.posted_cons, ih, Lnk.posting_frame]

theorem Lnk.enqueue_same {p q : Lnk} (h : p.SameReports q) (r : Report) :
    (p.enqueue r).SameReports (q.enqueue r) := by
  obtain ⟨hr, hl, hk, htx⟩ := h
  unfold Lnk.enqueue Lnk.append Lnk.sendingReport
  rw [hr, hl, htx]
  repeat' split
  all_goals exact ⟨rfl, rfl, hk, rfl⟩

theorem Lnk.posting_same {p q : Lnk} (h : p.SameReports q) (now : Uptime) (x : Posting) :
    (p.posting now x).SameReports (q.posting now x) := by
  have hwants : q.wants x.1 x.2.1 = p.wants x.1 x.2.1 := by
    obtain ⟨-, -, hk, -⟩ := h
    rw [Lnk.wants, hk, Lnk.wants]
  unfold Lnk.posting
  rw [hwants]
  split
  · exact Lnk.enqueue_same h _
  · exact h

theorem Lnk.posted_same {p q : Lnk} (h : p.SameReports q) (now : Uptime) (l : List Posting) :
    (p.posted now l).SameReports (q.posted now l) := by
  induction l generalizing p q with
  | nil => exact h
  | cons x l ih => exact ih (Lnk.posting_same h now x)

/-! ### A request served -/

theorem serve_of_takes {kind tag : Byte} {body : List Byte} (h : takes s kind tag body = true) (judge : Judge) :
    serve kind tag body true true judge s =
      .next (finish (reply (kind + 0x80) tag (judge (takeRequest s)).1 (judge (takeRequest s)).2)) := by
  simp [serve, h]

/-- R193: the transmitter's look for a frame changes what it sends alone. -/
theorem Lnk.start_frame (l : Lnk) : l.start = { l with tx := l.start.tx } := by
  unfold Lnk.start
  repeat' split
  all_goals rfl

/-- An answer with no other effect. -/
theorem replied_of_unchanged (kind tag : Byte) (a : Answer) (s : State) :
    Replied s kind tag a s (finish (reply kind tag a (takeRequest s))) := by
  unfold Replied finish reply takeRequest State.onLnk
  rw [Lnk.start_frame, Lnk.taken_eq]

/-- A reply to a request whose effects `u` have left LNK's queues but the reports alone. -/
theorem answered_of_effects {kind tag : Byte} {a : Answer}
    (h : u.lnk = { s.lnk.taken with reports := u.lnk.reports, lost := u.lnk.lost }) :
    Answered s kind tag a (finish (reply kind tag a u)) := by
  unfold Answered finish reply State.onLnk
  rw [Lnk.start_frame, h]
  exact ⟨rfl, rfl, by simp⟩

/-- The reports posted by a request's effects `u` are those that stand waiting after the reply. -/
theorem posted_of_effects {kind tag : Byte} {a : Answer} {l : List Posting}
    (h : u.lnk = s.lnk.taken.posted s.uptime l) : Posted l s (finish (reply kind tag a u)) := by
  have same : s.lnk.SameReports s.lnk.taken := by rw [Lnk.taken_eq]; exact ⟨rfl, rfl, rfl, rfl⟩
  obtain ⟨hr, hl, -, -⟩ := Lnk.posted_same same s.uptime l
  unfold Posted finish reply State.onLnk
  rw [posts_eq, Lnk.start_frame, h]
  exact ⟨hr, hl⟩

/-! ### The placing of measurements -/

/-- What placing and granting may change: MEA, the pointers and the count of LMP's choice, and CBL's test in flight. -/
def Places (s t : State) : Prop :=
  t = { s with
    mea := t.mea
    lmp := { s.lmp with routinePtr := t.lmp.routinePtr, offPtr := t.lmp.offPtr, evals := t.lmp.evals }
    cbl := { s.cbl with test := t.cbl.test } }

namespace Places

theorem refl (s : State) : Places s s := rfl

theorem trans (h1 : Places s t) (h2 : Places t u) : Places s u := by
  unfold Places at *
  rw [h2]
  rw [h1]

/-- What the placing of measurements leaves: the sections of lamps and cables, and every block but MEA, LMP and CBL. -/
theorem frame (h : Places s t) : t.jds = s.jds ∧ t.seq = s.seq ∧ t.plans = s.plans ∧ t.det = s.det ∧ t.flt = s.flt ∧
    t.lnk = s.lnk ∧ t.lmp.lamp = s.lmp.lamp ∧ t.cbl.cable = s.cbl.cable := by
  unfold Places at h
  rw [h]
  exact ⟨rfl, rfl, rfl, rfl, rfl, rfl, rfl, rfl⟩

theorem ite {p : Prop} [Decidable p] (ht : Places s t) (hu : Places s u) : Places s (if p then t else u) := by
  split <;> assumption

end Places

theorem place_places (i : MSlot) (r : Req) (s : State) : Places s (place i r s) := .ite rfl rfl

theorem placeProof_places (s : State) : Places s (placeProof s) := by
  unfold placeProof
  refine .ite (.refl s) ?_
  split
  · exact place_places _ _ s
  · exact .refl s

theorem placeOffCheck_places (c : Circuit) (s : State) : Places s (placeOffCheck c s) := by
  have pointer : Places s (s.onLmp fun l => { l with offPtr := some c, evals := 0 }) := rfl
  exact pointer.trans (place_places _ _ _)

theorem placeEvaluation_places (c : Circuit) (s : State) : Places s (placeEvaluation c s) := by
  have pointer : Places s (s.onLmp fun l => { l with routinePtr := some c, evals := min (l.evals + 1) 8 }) := rfl
  exact pointer.trans (place_places _ _ _)

theorem placeRoutine_places (s : State) : Places s (placeRoutine s) := by
  unfold placeRoutine
  refine .ite (.refl s) ?_
  simp only
  split
  · exact .ite (placeOffCheck_places _ s) (placeEvaluation_places _ s)
  · exact placeEvaluation_places _ s
  · exact placeOffCheck_places _ s
  · exact .refl s

theorem startTest_places (s : State) : Places s (startTest s) := by
  unfold startTest
  refine .ite (.refl s) ?_
  split <;> rfl

theorem placeCbl_places (s : State) : Places s (placeCbl s) := by
  unfold placeCbl
  split
  · exact .refl s
  next w _ =>
    have placed : Places s (s.onCbl fun c => { c with test := some { w with placed := true } }) := rfl
    split
    · exact .refl s
    · exact .ite (.refl s) (placed.trans (place_places _ _ _))

theorem placeDiag_places (s : State) : Places s (placeDiag s) := by
  have due (f : Mea → Mea) (r : Req) : Places s (place .diag r (s.onMea f)) :=
    .trans (t := s.onMea f) rfl (place_places _ _ _)
  exact .ite (.refl s) (.ite (due _ _) (.ite (due _ _) (.ite (due _ _) (.refl s))))

theorem grant_places (n : Nat) (s : State) : Places s (grant n s) := by
  unfold grant
  refine .ite (.refl s) ?_
  split
  · exact .refl s
  · split <;> rfl

theorem measures_places (n : Nat) (s : State) : Places s (measures n s) :=
  (placeProof_places s).trans <| (placeRoutine_places _).trans <| (startTest_places _).trans <|
    (placeCbl_places _).trans <| (placeDiag_places _).trans (grant_places n _)

/-- With no event waiting for FLT, settling places measurements alone. -/
theorem settle_places (h : s.flt.inbox = []) : Places s (settle s) := by
  rw [settle, drain_of_empty _ _ h]
  exact measures_places 0 s

end Sys2Proof.Machine
end

section
/-! PROOF. What an acceptance does (R14, R17 to R21), operation by operation in its order, and
`Obligations.JunctionAcceptTaken` from it. -/

namespace Sys2Proof.Machine

variable {s t u : State}

/-! ### DARK with the outputs off (R168, R180) -/

/-- R180: an entry as an entry into DARK leaves it. -/
def FEntry.aside (e : FEntry) : FEntry :=
  if e.isActive && e.kind.lampBased then { e with state := .pendingRetest } else e

theorem seqIdle_eq (s : State) : ∃ q : Seq, q.state = .idle ∧ seqIdle s = { s with seq := q } := by
  have stopped : ∃ q : Seq, stopCurrent s = { s with seq := q } := by
    unfold stopCurrent
    split
    · exact ⟨s.seq, rfl⟩
    · unfold repost
      split <;> exact ⟨_, rfl⟩
  obtain ⟨q, h⟩ := stopped
  rw [seqIdle, h]
  exact ⟨_, rfl, rfl⟩

/-- R93: with the outputs off, or going off, OSW has nothing to do at an entry into DARK. -/
theorem oswMode_dark_of_off (h : s.osw.phase = .outputsOff ∨ s.osw.phase = .contactorRelease) :
    oswMode .dark s = s := by
  rcases h with h | h <;> simp [oswMode, h]

theorem modePosting_dark (prev : Mode) (cls value : Byte) :
    modePosting prev .dark .none cls value = (.mode, true, .none, [b8 prev.code, b8 Mode.dark.code, cls, value]) := by
  cases prev <;> rfl

/-- R168: an entry into DARK by an acceptance, with the outputs off or going off. -/
theorem enterDark_acceptance (h : s.osw.phase = .outputsOff ∨ s.osw.phase = .contactorRelease) :
    ∃ (q : Seq) (out : Bool), q.state = .idle ∧ enterDark .acceptance .acceptance s = { s with
      seq := q
      flt := { s.flt with mode := .dark, darkCause := .acceptance, list := s.flt.list.map FEntry.aside, output := out }
      lnk := s.lnk.posted s.uptime [modePosting s.flt.mode .dark .none 3 0] } := by
  let u := setAside (s.onFlt fun f => { f with mode := .dark, darkCause := .acceptance })
  obtain ⟨q, hq, hidle⟩ := seqIdle_eq u
  refine ⟨q, u.flt.output, hq, ?_⟩
  have hmode : enterDark .acceptance .acceptance s =
      modeReport s.flt.mode .dark .acceptance (oswMode .dark (seqIdle u)) := by
    simp [enterDark, changeMode, seqMode, u]
  rw [hmode, hidle, oswMode_dark_of_off (s := { u with seq := q }) h, modePosting_dark]
  rfl

/-! ### Plans at an acceptance (R17, R64, R68, R72) -/

theorem latest_congr (h : t.plans.schedule = s.plans.schedule) (l : List SchedIx) : latest t l = latest s l := by
  induction l with
  | nil => rfl
  | cons e l ih => simp only [latest, ih, h]

theorem scheduleChoice_congr (hs : t.plans.schedule = s.plans.schedule) (hc : t.plans.clock = s.plans.clock) :
    scheduleChoice t = scheduleChoice s := by
  have hq (d : Fin 7) : qualifies t d = qualifies s d := by funext e; rw [qualifies, hs, qualifies]
  simp only [scheduleChoice, choiceOn, latest_congr hs, hq, hs, hc]

theorem choiceWithSlot_congr (hs : t.plans.schedule = s.plans.schedule) (hc : t.plans.clock = s.plans.clock) :
    choiceWithSlot t = choiceWithSlot s := by
  simp only [choiceWithSlot, scheduleChoice_congr hs hc, hs]

theorem selected_congr (hslot : t.plans.slot = s.plans.slot) (ho : t.plans.override = s.plans.override)
    (hs : t.plans.schedule = s.plans.schedule) (hc : t.plans.clock = s.plans.clock) : selected t = selected s := by
  have hvalid : validSlot t = validSlot s := by funext p; rw [validSlot, planAt, hslot, validSlot, planAt]
  simp only [selected, choiceWithSlot_congr hs hc, hvalid, ho]

theorem descriptionError_congr (h : t.jds = s.jds) (p : PlanSlot) : descriptionError t p = descriptionError s p := by
  simp only [descriptionError, floorAbove, h]

/-- R17: a slot after its validation against the description of `s`. -/
def PlanSlot.revalidated (s : State) (x : PlanSlot) : PlanSlot :=
  if x.state = .valid then
    match descriptionError s x with
    | some e => { x with state := .invalid, error := some e }
    | none => x
  else x

theorem PlanSlot.revalidated_valid_iff (s : State) (x : PlanSlot) :
    (x.revalidated s).state = .valid ↔ x.state = .valid ∧ descriptionError s x = none := by
  unfold PlanSlot.revalidated
  split
  next h => split <;> simp_all
  next h => simp [h]

theorem onSlot_congr {p : Slot} {f g : PlanSlot → PlanSlot} (h : f (planAt s p) = g (planAt s p)) :
    onSlot p f s = onSlot p g s := by
  have same : s.plans.slot.modify p f = s.plans.slot.modify p g := congrArg (s.plans.slot.set p) h
  simp only [onSlot, State.onPlans, same]

theorem onSlot_eq_self {p : Slot} {f : PlanSlot → PlanSlot} (h : f (planAt s p) = planAt s p) : onSlot p f s = s := by
  simp only [onSlot, State.onPlans, Tab.modify_eq_self _ _ h]

theorem revalidate_eq (p : Slot) (h : t.jds = s.jds) : revalidate p t = onSlot p (PlanSlot.revalidated s) t := by
  unfold revalidate
  simp only [validSlot, decide_eq_true_eq, descriptionError_congr h]
  split
  next hvalid =>
    split
    next e he => exact onSlot_congr (by simp [PlanSlot.revalidated, hvalid, he])
    next he => exact (onSlot_eq_self (by simp [PlanSlot.revalidated, hvalid, he])).symm
  next hvalid => exact (onSlot_eq_self (by simp [PlanSlot.revalidated, hvalid])).symm

/-- R17: every slot is validated once. -/
theorem forEach_revalidate_eq (s : State) : forEach revalidate s =
    { s with plans := { s.plans with slot := s.plans.slot.map (PlanSlot.revalidated s) } } := by
  have slots (l : List Slot) : ∀ t : State, t.jds = s.jds → l.foldl (fun t p => revalidate p t) t =
      t.onPlans fun x => { x with slot := l.foldl (fun y p => y.modify p (PlanSlot.revalidated s)) x.slot } := by
    induction l with
    | nil => exact fun t _ => rfl
    | cons p l ih =>
      intro t h
      rw [List.foldl_cons, revalidate_eq p h, ih (onSlot p _ t) h]
      rfl
  rw [forEach, slots _ s rfl]
  simp only [Tab.allFin_foldl_modify, State.onPlans]

/-- R68: the PLAN-CHANGE an acceptance posts where the plan in force becomes none. -/
def dropPostings (before after : Option Slot) : List Posting :=
  if before ≠ none ∧ after = none then [(.planChange, false, .none, [number? before, 0, 3])] else []

theorem dropInvalid_eq (s : State) : dropInvalid s = { s with
    plans := { s.plans with
      inForce := s.plans.inForce.filter (validSlot s)
      pendingPlan := s.plans.pendingPlan.filter (validSlot s) }
    lnk := s.lnk.posted s.uptime (dropPostings s.plans.inForce (s.plans.inForce.filter (validSlot s))) } := by
  unfold dropInvalid dropPostings
  by_cases h : s.plans.inForce ≠ none ∧ s.plans.inForce.filter (validSlot s) = none
  · rw [if_pos (by simpa [Option.isSome_iff_ne_none] using h), if_pos h]
    rfl
  · rw [if_neg (by simpa [Option.isSome_iff_ne_none] using h), if_neg h]
    rfl

/-- R72: the PLAN-UNAVAILABLE of a choice that differs from the last activated one and whose slot is not VALID. -/
def choicePostings (choice last : Option (SchedIx × Slot)) (slots : Tab PlanSlot 4) : List Posting :=
  match choice with
  | some (e, p) => if choice ≠ last ∧ (slots.get p).state ≠ .valid then
      [(.planUnavailable, false, .sched e, [number p])] else []
  | none => []

theorem activate_eq (s : State) : activate s = { s with
    plans := { s.plans with lastChoice := choiceWithSlot s }
    lnk := s.lnk.posted s.uptime (choicePostings (choiceWithSlot s) s.plans.lastChoice s.plans.slot) } := by
  unfold activate choicePostings
  by_cases h : choiceWithSlot s = s.plans.lastChoice
  · simp only [h, ne_eq, not_true_eq_false, false_and, if_true, if_false]
    split <;> rfl
  · simp only [h, ne_eq, not_false_eq_true, true_and, if_false]
    rcases choiceWithSlot s with _ | ⟨e, p⟩
    · rfl
    · by_cases hvalid : (s.plans.slot.get p).state = .valid <;> simp only [validSlot, planAt, hvalid] <;> rfl

theorem evaluate_eq (s : State) : evaluate s = { s with
    plans := { s.plans with
      lastChoice := choiceWithSlot s
      pendingPlan := if selected s = s.plans.inForce then none else selected s }
    lnk := s.lnk.posted s.uptime (choicePostings (choiceWithSlot s) s.plans.lastChoice s.plans.slot) } := by
  have hselected : selected (activate s) = selected s := by rw [activate_eq]; exact selected_congr rfl rfl rfl rfl
  simp only [evaluate, hselected]
  rw [activate_eq]
  rfl

/-- R17, R64: what the plans `P` are after the slots of `s` have been validated, the references to those that failed
dropped, and the selection evaluated. -/
def Revised (s : State) (P : Plans) : Prop :=
  P.slot = s.plans.slot.map (PlanSlot.revalidated s) ∧
  (∀ p, P.inForce = some p ↔ s.plans.inForce = some p ∧ (P.slot.get p).state = .valid) ∧
  P.pendingPlan = if selected { s with plans := P } = P.inForce then none else selected { s with plans := P }

/-- R17, R68, R72: with the reports of it. -/
def revisePostings (s : State) (P : Plans) : List Posting :=
  dropPostings s.plans.inForce P.inForce ++ choicePostings (choiceWithSlot s) s.plans.lastChoice P.slot

/-- Both depend on the description and the plans of the state alone. -/
theorem Revised.congr {P : Plans} (hj : t.jds = s.jds) (hp : t.plans = s.plans) (h : Revised t P) : Revised s P := by
  have hslot : PlanSlot.revalidated t = PlanSlot.revalidated s := by
    funext x
    simp only [PlanSlot.revalidated, descriptionError_congr hj]
  have hselected : selected { t with plans := P } = selected { s with plans := P } := selected_congr rfl rfl rfl rfl
  rwa [Revised, hslot, hselected, hp] at h

theorem revisePostings_congr (P : Plans) (hp : t.plans = s.plans) : revisePostings t P = revisePostings s P := by
  rw [revisePostings, choiceWithSlot_congr (s := s) (by rw [hp]) (by rw [hp]), hp, revisePostings]

/-- R17: the plans with every slot validated and the references to slots that are not VALID dropped. -/
def revalidatedPlans (s : State) : Plans :=
  let slots := s.plans.slot.map (PlanSlot.revalidated s)
  let valid (p : Slot) : Bool := (slots.get p).state = .valid
  { s.plans with
    slot := slots
    inForce := s.plans.inForce.filter valid
    pendingPlan := s.plans.pendingPlan.filter valid }

theorem dropInvalid_revalidate_eq (s : State) : dropInvalid (forEach revalidate s) = { s with
    plans := revalidatedPlans s
    lnk := s.lnk.posted s.uptime (dropPostings s.plans.inForce (revalidatedPlans s).inForce) } := by
  rw [forEach_revalidate_eq, dropInvalid_eq]
  rfl

theorem evaluate_revalidated (s : State) : ∃ P, Revised s P ∧
    evaluate (dropInvalid (forEach revalidate s)) =
      { s with plans := P, lnk := s.lnk.posted s.uptime (revisePostings s P) } := by
  obtain ⟨v, hv⟩ : ∃ v, v = dropInvalid (forEach revalidate s) := ⟨_, rfl⟩
  have hplans : v.plans = revalidatedPlans s := by rw [hv, dropInvalid_revalidate_eq]
  have hchoice : choiceWithSlot v = choiceWithSlot s :=
    choiceWithSlot_congr (by rw [hplans]; rfl) (by rw [hplans]; rfl)
  refine ⟨(evaluate v).plans, ⟨?slot, fun p => ?inForce, ?pending⟩, ?frame⟩
  case slot => rw [evaluate_eq, hplans]; rfl
  case inForce =>
    rw [evaluate_eq, hplans]
    simp [revalidatedPlans, Option.filter_eq_some_iff]
  case pending =>
    have hselected : selected { s with plans := (evaluate v).plans } = selected v := by
      rw [evaluate_eq]
      exact selected_congr rfl rfl rfl rfl
    rw [hselected, evaluate_eq]
  case frame =>
    rw [← hv, evaluate_eq, hchoice, revisePostings, Lnk.posted_append, hplans]
    rw [hv, dropInvalid_revalidate_eq]
    rfl

/-! ### The clears of an acceptance (R21) -/

/-- R179: the report of an entry that becomes CLEARED. -/
def clearedPosting (e : FEntry) : Posting := (.faultCleared, false, reportSubject e.subject, [b8 e.kind.code, 1])

theorem Subject.report_eq (j : Subject) : j.report = reportSubject j := by cases j <;> rfl

/-- The entry, CLEARED where `b` says so. -/
def FEntry.clearedIf (b : Bool) (e : FEntry) : FEntry := if b then { e with state := .cleared } else e

@[simp] theorem FEntry.is_clearedIf (k : FaultKind) (j : Subject) (b : Bool) (e : FEntry) :
    (e.clearedIf b).is k j = e.is k j := by cases b <;> rfl

@[simp] theorem FEntry.clearedIf_clearedIf (b c : Bool) (e : FEntry) :
    (e.clearedIf b).clearedIf c = e.clearedIf (b || c) := by cases b <;> cases c <;> rfl

theorem FEntry.clearedIf_of_cleared {e : FEntry} (h : e.state = .cleared) (b : Bool) : e.clearedIf b = e := by
  cases b
  · rfl
  · rw [FEntry.clearedIf, if_pos rfl, ← h]

theorem clearEntry_eq (x : FEntry) (s : State) : ∃ out : Bool, clearEntry x.kind x.subject s = { s with
    flt := { s.flt with list := s.flt.list.map fun e => e.clearedIf (e.is x.kind x.subject), output := out }
    lnk := s.lnk.posted s.uptime [clearedPosting x] } := by
  rw [clearEntry, faultCleared, Subject.report_eq, post_eq]
  exact ⟨_, rfl⟩

/-- Clearing entries one after the other clears every entry of their kinds and subjects. -/
theorem foldl_clearEntry (es : List FEntry) (s : State) :
    ∃ out : Bool, es.foldl (fun t e => clearEntry e.kind e.subject t) s = { s with
      flt := { s.flt with
        list := s.flt.list.map fun e => e.clearedIf (es.any fun x => e.is x.kind x.subject)
        output := out }
      lnk := s.lnk.posted s.uptime (es.map clearedPosting) } := by
  induction es generalizing s with
  | nil =>
    have same : (s.flt.list.map fun e => e.clearedIf false) = s.flt.list := List.map_id _
    exact ⟨s.flt.output, by simp only [List.any_nil, same]; rfl⟩
  | cons x es ih =>
    obtain ⟨_, hx⟩ := clearEntry_eq x s
    obtain ⟨out, h⟩ := ih (clearEntry x.kind x.subject s)
    refine ⟨out, ?_⟩
    rw [List.foldl_cons, h, hx]
    simp only [List.map_map, Function.comp_def, FEntry.is_clearedIf, FEntry.clearedIf_clearedIf, List.any_cons,
      List.map_cons, Lnk.posted_cons, Lnk.posted_nil]

theorem FaultKind.reinitialised_iff (k : FaultKind) : k.reinitialised = true ↔
    k ∈ [FaultKind.redOut, .lampDegraded, .lampOut, .lampOvercurrent, .onWhenOff, .cableOpen, .cableShort,
      .cableInsulation, .foreignVoltage, .detectorStuckOn, .detectorSilent, .detectorChatter] := by
  cases k <;> decide

/-- The entries of the list that an acceptance clears. -/
def toClear (l : List FEntry) : List FEntry := l.filter fun e => e.kind.reinitialised && e.state ≠ .cleared

/-- R21: every entry of these kinds is CLEARED; of those that were not, a report goes out in list order. -/
theorem acceptClears_eq (s : State) : ∃ out : Bool, acceptClears s = { s with
    flt := { s.flt with list := s.flt.list.map fun e => e.clearedIf e.kind.reinitialised, output := out }
    lnk := s.lnk.posted s.uptime ((toClear s.flt.list).map clearedPosting) } := by
  obtain ⟨out, h⟩ := foldl_clearEntry (toClear s.flt.list) s
  have cleared : (s.flt.list.map fun e => e.clearedIf ((toClear s.flt.list).any fun x => e.is x.kind x.subject)) =
      s.flt.list.map fun e => e.clearedIf e.kind.reinitialised := by
    refine List.map_congr_left fun e he => ?_
    by_cases hstate : e.state = .cleared
    · rw [FEntry.clearedIf_of_cleared hstate, FEntry.clearedIf_of_cleared hstate]
    · congr 1
      rw [Bool.eq_iff_iff, List.any_eq_true]
      constructor
      · rintro ⟨x, hx, hkind⟩
        simp_all [toClear, FEntry.is]
      · exact fun hr => ⟨e, by simp [toClear, he, hr, hstate], by simp [FEntry.is]⟩
  rw [cleared] at h
  exact ⟨out, h⟩

/-! ### The whole acceptance -/

/-- R21, R180: an entry after an acceptance. -/
def FEntry.accepted (e : FEntry) : FEntry := e.aside.clearedIf e.kind.reinitialised

@[simp] theorem FEntry.aside_kind (e : FEntry) : e.aside.kind = e.kind := by unfold aside; split <;> rfl
@[simp] theorem FEntry.aside_subject (e : FEntry) : e.aside.subject = e.subject := by unfold aside; split <;> rfl

theorem FEntry.aside_cleared_iff (e : FEntry) : e.aside.state = .cleared ↔ e.state = .cleared := by
  unfold aside
  split
  next h => simp_all [isActive]
  next => rfl

/-- Setting entries aside changes nothing of what an acceptance clears and reports. -/
theorem toClear_aside (l : List FEntry) : (toClear (l.map FEntry.aside)).map clearedPosting =
    (toClear l).map clearedPosting := by
  simp [toClear, List.filter_map, Function.comp_def, FEntry.aside_cleared_iff, clearedPosting]

theorem FaultKind.lampBased_iff_of_not_reinitialised {k : FaultKind} (h : k.reinitialised = false) :
    k.lampBased = true ↔ k = .redProofTimeout := by
  revert h
  cases k <;> decide

/-- A retest of red proof is what an acceptance sets aside and does not clear. -/
theorem FEntry.accepted_eq (e : FEntry) : e.accepted =
    if e.state ≠ .cleared ∧ e.kind.reinitialised = true then { e with state := .cleared }
    else if e.state = .active ∧ e.kind = .redProofTimeout then { e with state := .pendingRetest } else e := by
  unfold accepted
  cases hkind : e.kind.reinitialised with
  | true =>
    have hcleared : e.aside.clearedIf true = { e with state := .cleared } := by
      unfold aside
      split <;> rfl
    by_cases hstate : e.state = .cleared
    · rw [hcleared, if_neg (by simp [hstate]), if_neg (by simp [hstate]), ← hstate]
    · simp [hcleared, hstate]
  | false => simp [clearedIf, aside, isActive, FaultKind.lampBased_iff_of_not_reinitialised hkind]

/-- R17 to R20: the state with the description ACCEPTED and the sections of the field jobs started afresh. -/
def withSections (s : State) : State := acceptSections (s.onJds fun j => { j with desc := .accepted })

theorem withSections_lamp (s : State) (c : Circuit) :
    (withSections s).lmp.lamp.get c = Lamp.accepted (s.jds.circuit.get c) := Tab.get_ofFn _ c

theorem withSections_cable (s : State) (c : Circuit) :
    (withSections s).cbl.cable.get c = Cable.accepted s.stamp (s.jds.circuit.get c) := Tab.get_ofFn _ c

theorem withSections_record (s : State) (d : Detector) :
    (withSections s).det.record.get d = Det1.accepted s.stamp (s.jds.detector.get d) (recOf s d) := Tab.get_ofFn _ d

/-- R20: only the debounce of a closed contact of a used detector runs after an acceptance. -/
theorem Det1.accepted_timer_iff (now : Stamp) (r : DetRec) (x : Det1) :
    (Det1.accepted now r x).timer ≠ none ↔ r.kind ≠ .unused ∧ x.contact = true := by
  simp [Det1.accepted]

/-- R14: the reports of an acceptance that leaves the plans `P`. -/
def acceptPostings (s : State) (P : Plans) : List Posting :=
  modePosting s.flt.mode .dark .none 3 0 :: revisePostings s P ++
    (toClear s.flt.list).map clearedPosting

theorem acceptPostings_takeRequest (s : State) (P : Plans) : acceptPostings (takeRequest s) P = acceptPostings s P := by
  rw [acceptPostings, revisePostings_congr (t := takeRequest s) (s := s) P rfl, acceptPostings]
  rfl

/-- R17 to R21: an acceptance with the outputs off or going off. -/
theorem accept_eq (h : s.osw.phase = .outputsOff ∨ s.osw.phase = .contactorRelease) :
    ∃ (q : Seq) (P : Plans) (out : Bool), q.state = .idle ∧ q.demand = Tab.const 12 false ∧
      Revised (withSections s) P ∧ accept s = { withSections s with
        seq := q
        plans := P
        flt := { s.flt with
          mode := .dark, darkCause := .acceptance, list := s.flt.list.map FEntry.accepted, output := out }
        lnk := s.lnk.posted s.uptime (acceptPostings s P) } := by
  obtain ⟨q, out, hq, hdark⟩ := enterDark_acceptance (s := withSections s) h
  let u := enterDark .acceptance .acceptance (withSections s)
  obtain ⟨P, hrevised, heval⟩ := evaluate_revalidated u
  have hu : u.jds = (withSections s).jds ∧ u.plans = (withSections s).plans := by simp only [u, hdark, and_self]
  have haccept : accept s = acceptClears (State.onSeq (fun q => { q with demand := Tab.const 12 false })
      (evaluate (dropInvalid (forEach revalidate u)))) := rfl
  obtain ⟨out', hclears⟩ := acceptClears_eq
    ((evaluate (dropInvalid (forEach revalidate u))).onSeq fun q => { q with demand := Tab.const 12 false })
  refine ⟨{ q with demand := Tab.const 12 false }, P, out', hq, rfl, hrevised.congr hu.1 hu.2, ?_⟩
  rw [haccept, hclears, heval, revisePostings_congr (s := s) P hu.2]
  simp only [u, hdark, State.onSeq, toClear_aside, acceptPostings, List.cons_append, Lnk.posted_cons, Lnk.posted_nil,
    Lnk.posted_append, List.map_map, Function.comp_def, FEntry.aside_kind]
  rfl

/-- What an acceptance leaves of each block, the link apart. -/
structure AfterAccept (s t : State) : Prop where
  jds : t.jds = { s.jds with desc := .accepted }
  idle : t.seq.state = .idle
  demand : t.seq.demand = Tab.const 12 false
  plans : Revised (withSections s) t.plans
  det : t.det = (withSections s).det
  lamp : t.lmp.lamp = (withSections s).lmp.lamp
  cable : t.cbl.cable = (withSections s).cbl.cable
  mode : t.flt.mode = .dark
  darkCause : t.flt.darkCause = .acceptance
  restartPermitted : t.flt.restartPermitted = s.flt.restartPermitted
  list : t.flt.list = s.flt.list.map FEntry.accepted

/-- The handling of the request around it touches the link alone. -/
theorem AfterAccept.replied (h : AfterAccept (takeRequest s) u) (kind tag : Byte) (a : Answer) :
    AfterAccept s (finish (reply kind tag a u)) :=
  ⟨h.jds, h.idle, h.demand, Revised.congr (t := withSections (takeRequest s)) rfl rfl h.plans, h.det,
    h.lamp, h.cable, h.mode, h.darkCause, h.restartPermitted, h.list⟩

/-- With no event waiting for FLT, settling an acceptance places measurements alone. -/
theorem settle_accept (hphase : s.osw.phase = .outputsOff ∨ s.osw.phase = .contactorRelease)
    (hinbox : s.flt.inbox = []) : AfterAccept s (settle (accept s)) ∧
      (settle (accept s)).lnk = s.lnk.posted s.uptime (acceptPostings s (settle (accept s)).plans) := by
  obtain ⟨q, P, out, hidle, hdemand, hrevised, haccept⟩ := accept_eq hphase
  have hplaces : Places (accept s) (settle (accept s)) := settle_places (by rw [haccept]; exact hinbox)
  obtain ⟨hjds, hseq, hplans, hdet, hflt, hlnk, hlamp, hcable⟩ := hplaces.frame
  generalize settle (accept s) = u at *
  rw [haccept] at hjds hseq hplans hdet hflt hlnk hlamp hcable
  subst hplans
  refine ⟨?_, hlnk⟩
  exact { jds := hjds, plans := hrevised, det := hdet, lamp := hlamp, cable := hcable
          idle := by rw [hseq]; exact hidle
          demand := by rw [hseq]; exact hdemand
          mode := by rw [hflt]
          darkCause := by rw [hflt]
          restartPermitted := by rw [hflt]
          list := by rw [hflt] }

/-- A JUNCTION-ACCEPT that the handler takes. -/
theorem junctionAccept_of_takes {tag : Byte} {a : Answer} (h : takes s 0x03 tag [] = true)
    (hjudge : judgeAccept (takeRequest s) = (a, u)) :
    exec (.junctionAccept tag []) s = .next (finish (reply 0x83 tag a u)) := by
  have hserve := serve_of_takes h judgeAccept
  rwa [hjudge] at hserve

end Sys2Proof.Machine

namespace Sys2Proof.Proofs

open Sys2Proof Sys2Proof.Machine

/-- Settles O22: with every check passing, `accept_eq` gives the state after the acceptance block by block, and settling
it places measurements alone; the two refusals leave everything but the link as it is. -/
theorem junctionAcceptTaken : Obligations.JunctionAcceptTaken := by
  unfold Obligations.JunctionAcceptTaken
  intro afresh
  refine ⟨?taken, ?failing, ?notOpen⟩
  case failing =>
    intro tag s n a b htakes hdesc hcheck
    have hjudge : judgeAccept (takeRequest s) = (.refused .badField (b8 n) a b, takeRequest s) := by
      simp [judgeAccept, takeRequest, hdesc, hcheck]
    exact ⟨_, junctionAccept_of_takes htakes hjudge, replied_of_unchanged _ _ _ s⟩
  case notOpen =>
    intro tag s htakes hdesc
    have hjudge : judgeAccept (takeRequest s) = (.no .notOpen, takeRequest s) := by
      simp [judgeAccept, takeRequest, hdesc]
    exact ⟨_, junctionAccept_of_takes htakes hjudge, replied_of_unchanged _ _ _ s⟩
  case taken =>
    intro tag s htakes hdesc hcheck hinbox hphase
    have hjudge : judgeAccept (takeRequest s) = (.ok, settle (accept (takeRequest s))) := by
      simp [judgeAccept, takeRequest, hdesc, hcheck]
    obtain ⟨hafter, hlnk⟩ := settle_accept (s := takeRequest s) hphase hinbox
    generalize settle (accept (takeRequest s)) = u at *
    refine ⟨finish (reply 0x83 tag .ok u), junctionAccept_of_takes htakes hjudge, ?_⟩
    have hanswered : Answered s 0x83 tag .ok (finish (reply 0x83 tag .ok u)) :=
      answered_of_effects (by rw [hlnk]; exact Lnk.posted_frame _ _ _)
    have hposted : Posted (acceptPostings s u.plans) s (finish (reply 0x83 tag .ok u)) := by
      rw [← acceptPostings_takeRequest]
      exact posted_of_effects hlnk
    have hblocks := hafter.replied 0x83 tag .ok
    have hplans : (finish (reply 0x83 tag .ok u)).plans = u.plans := rfl
    rw [← hplans] at hposted
    generalize finish (reply 0x83 tag .ok u) = t at *
    obtain ⟨hslot, hinForce, hpending⟩ := hblocks.plans
    refine ⟨hanswered, hblocks.jds, hblocks.mode, hblocks.darkCause, hblocks.restartPermitted, hblocks.idle,
      hblocks.demand, ?lamps, ?cables, ?detectors, ?slots, hinForce, ?pending, ?list, ?reports⟩
    case lamps =>
      intro c
      rw [hblocks.lamp]
      exact withSections_lamp s c
    case cables =>
      intro c
      rw [hblocks.cable]
      exact withSections_cable s c
    case detectors =>
      intro d
      rw [recOf, hblocks.det, withSections_record]
      exact ⟨rfl, rfl, rfl, rfl, rfl, rfl, rfl, Det1.accepted_timer_iff _ _ _⟩
    case slots =>
      intro p
      have hdescription : (withSections s).jds = ({ s with jds := t.jds } : State).jds := hblocks.jds.symm
      rw [planAt, hslot, Tab.get_map, PlanSlot.revalidated_valid_iff, descriptionError_congr hdescription]
      rfl
    case pending =>
      have hselected : selected { withSections s with plans := t.plans } = selected t := selected_congr rfl rfl rfl rfl
      rwa [hselected] at hpending
    case list =>
      rw [hblocks.list]
      refine List.map_congr_left fun e _ => ?_
      simp only [FEntry.accepted_eq, FaultKind.reinitialised_iff, afresh]
    case reports =>
      intro choice
      have hclear : toClear s.flt.list = s.flt.list.filter fun e => decide (e.state ≠ .cleared ∧ e.kind ∈ afresh) := by
        refine List.filter_congr fun e _ => ?_
        rw [Bool.eq_iff_iff]
        simp only [Bool.and_eq_true, decide_eq_true_eq, FaultKind.reinitialised_iff, afresh, and_comm]
      rw [acceptPostings, hclear] at hposted
      exact hposted

end Sys2Proof.Proofs
end

section
/-! PROOF. What leaves the plan library, the slot references, the schedule and the clock as they are: every operation
but those that take the pending plan, evaluate the selection, or serve a plan, schedule or clock request. -/

namespace Sys2Proof.Machine

variable {s t u : State}

/-! ### Iteration and choice -/

theorem plans_ite {p : Prop} [Decidable p] {P : Plans} (ht : t.plans = P) (hu : u.plans = P) :
    (if p then t else u).plans = P := by
  split <;> assumption

theorem foldl_plans {α : Type} {f : State → α → State} (hf : ∀ t a, (f t a).plans = t.plans) (l : List α)
    (s : State) : (l.foldl f s).plans = s.plans := by
  induction l generalizing s with
  | nil => rfl
  | cons a l ih => rw [List.foldl_cons, ih, hf]

theorem forEach_plans {n : Nat} {f : Fin n → State → State} (hf : ∀ i t, (f i t).plans = t.plans) (s : State) :
    (forEach f s).plans = s.plans := foldl_plans (fun t i => hf i t) _ s

/-! ### Engine, switching and the watches -/

@[simp] theorem post_plans (k : ReportKind) (a : Bool) (j : RSubject) (l : List Byte) (s : State) :
    (post k a j l s).plans = s.plans := rfl

@[simp] theorem toFlt_plans (e : FltEvent) (s : State) : (toFlt e s).plans = s.plans := rfl

@[simp] theorem raise_plans (k : FaultKind) (j : Subject) (s : State) : (raise k j s).plans = s.plans := rfl

@[simp] theorem clear_plans (k : FaultKind) (j : Subject) (s : State) : (clear k j s).plans = s.plans := rfl

@[simp] theorem onChange_plans (a b : Bool) (k : FaultKind) (j : Subject) (s : State) :
    (onChange a b k j s).plans = s.plans := plans_ite rfl (plans_ite rfl rfl)

@[simp] theorem coilFault_plans (f : CoilFault) (a b : FaultKind) (j : Subject) (s : State) :
    (coilFault f a b j s).plans = s.plans := by
  cases f <;> rfl

@[simp] theorem measures_plans (n : Nat) (s : State) : (measures n s).plans = s.plans := by
  obtain ⟨-, -, h, -⟩ := (measures_places n s).frame
  exact h

@[simp] theorem grant_plans (n : Nat) (s : State) : (grant n s).plans = s.plans := by
  obtain ⟨-, -, h, -⟩ := (grant_places n s).frame
  exact h

@[simp] theorem ownerPlaces_plans (i : MSlot) (s : State) : (ownerPlaces i s).plans = s.plans := by
  have placed : Places s (ownerPlaces i s) := by
    cases i with
    | proof => exact placeProof_places s
    | routine => exact placeRoutine_places s
    | cbl => exact (startTest_places s).trans (placeCbl_places _)
    | diag => exact placeDiag_places s
  obtain ⟨-, -, h, -⟩ := placed.frame
  exact h

@[simp] theorem withdraw_plans (i : MSlot) (s : State) : (withdraw i s).plans = s.plans := plans_ite rfl rfl

@[simp] theorem commandRelease_plans (b : Bool) (s : State) : (commandRelease b s).plans = s.plans := by
  unfold commandRelease
  split <;> rfl

@[simp] theorem abandon_plans (s : State) : (abandon s).plans = s.plans := by
  unfold abandon
  split <;> simp [onCable]

@[simp] theorem cblWatch_plans (s : State) : (cblWatch s).plans = s.plans := by
  unfold cblWatch
  split
  · rfl
  · exact plans_ite (abandon_plans s) rfl

@[simp] theorem onRelay_plans (c : Circuit) (f : Relay → Relay) (s : State) : (onRelay c f s).plans = s.plans := rfl

@[simp] theorem setEntering_plans (c : Circuit) (b : Bool) (s : State) : (setEntering c b s).plans = s.plans := rfl

@[simp] theorem relayTo_plans (c : Circuit) (r : Coil × CoilFault) (s : State) : (relayTo c r s).plans = s.plans := by
  simp [relayTo]

@[simp] theorem commandRelay_plans (c : Circuit) (on : Bool) (s : State) :
    (commandRelay c on s).plans = s.plans := plans_ite rfl (by simp)

@[simp] theorem contactorNotice_plans (s : State) : (contactorNotice s).plans = s.plans := plans_ite rfl rfl

@[simp] theorem contactorTo_plans (r : Coil × CoilFault) (s : State) : (contactorTo r s).plans = s.plans :=
  plans_ite (by simp) (by simp)

@[simp] theorem commandContactor_plans (on : Bool) (s : State) : (commandContactor on s).plans = s.plans :=
  plans_ite rfl (by simp)

@[simp] theorem actCircuit_plans (c : Circuit) (s : State) : (actCircuit c s).plans = s.plans :=
  plans_ite (plans_ite rfl (by simp)) rfl

@[simp] theorem act_plans (g : Group) (s : State) : (act g s).plans = s.plans :=
  foldl_plans (fun t c => actCircuit_plans c t) _ s

@[simp] theorem judgeCircuit_plans (c : Circuit) (s : State) : (judgeCircuit c s).plans = s.plans :=
  plans_ite (by simp) rfl

@[simp] theorem askCircuit_plans (c : Circuit) (s : State) : (askCircuit c s).plans = s.plans :=
  plans_ite (by simp) rfl

@[simp] theorem completeDark_plans (s : State) : (completeDark s).plans = s.plans := by
  have released : (forEach (fun c => commandRelay c false) s).plans = s.plans :=
    forEach_plans (fun c t => commandRelay_plans c false t) s
  unfold completeDark
  exact plans_ite (by rw [forEach_plans act_plans, State.onOsw_plans, released])
    (by rw [State.onOsw_plans, released])

@[simp] theorem darkCheck_plans (s : State) : (darkCheck s).plans = s.plans := plans_ite (completeDark_plans s) rfl

@[simp] theorem redsCheck_plans (s : State) : (redsCheck s).plans = s.plans := plans_ite (by simp) rfl

@[simp] theorem conflictGroup_plans (g : Group) (s : State) : (conflictGroup g s).plans = s.plans := by
  simp [conflictGroup]

@[simp] theorem unproveCircuit_plans (c : Circuit) (s : State) : (unproveCircuit c s).plans = s.plans :=
  plans_ite rfl rfl

@[simp] theorem lmpWatch_plans (s : State) : (lmpWatch s).plans = s.plans := forEach_plans unproveCircuit_plans s

@[simp] theorem oswAfter_plans (s : State) : (oswAfter s).plans = s.plans := by
  simp [oswAfter, forEach_plans]

@[simp] theorem groupCommand_plans (g : Group) (st : GState) (s : State) :
    (groupCommand g st s).plans = s.plans := plans_ite (by simp) rfl

@[simp] theorem oswMode_plans (m : Mode) (s : State) : (oswMode m s).plans = s.plans := by
  cases m with
  | startUp => exact plans_ite (by simp [forEach_plans]) rfl
  | dark => exact plans_ite (by simp [darkStart]) rfl
  | _ => rfl

/-! ### The sequencer, its plan and the ends of stages apart -/

@[simp] theorem holdDemand_plans (k : Stage) (s : State) : (holdDemand k s).plans = s.plans := plans_ite rfl rfl

@[simp] theorem startMaximum_plans (s : State) : (startMaximum s).plans = s.plans := plans_ite rfl rfl

@[simp] theorem seqReact_plans (s : State) : (seqReact s).plans = s.plans := by
  have held (t : State) : (holdGap t).plans = t.plans := plans_ite rfl rfl
  have followed (t : State) : (followDemand t).plans = t.plans := plans_ite rfl rfl
  exact plans_ite (by rw [followed, held, startMaximum_plans]) rfl

@[simp] theorem stopCurrent_plans (s : State) : (stopCurrent s).plans = s.plans := by
  unfold stopCurrent
  split
  · rfl
  · exact plans_ite rfl rfl

@[simp] theorem issue_plans (e : TtEntry) (s : State) : (issue e s).plans = s.plans := by simp [issue, mark]

@[simp] theorem reachEntry_plans (e : TtEntry) (s : State) : (reachEntry e s).plans = s.plans :=
  plans_ite rfl (issue_plans e s)

@[simp] theorem heldCheck_plans (s : State) : (heldCheck s).plans = s.plans :=
  foldl_plans (fun t e => plans_ite (issue_plans e t) rfl) _ s

@[simp] theorem seqStart_plans (s : State) : (seqStart s).plans = s.plans :=
  forEach_plans (fun _ _ => plans_ite (by simp) rfl) _

@[simp] theorem emptyTarget_plans (s : State) : (emptyTarget s).plans = s.plans := by
  unfold emptyTarget
  split <;> simp

/-! ### The fault list -/

@[simp] theorem changeEntry_plans (k : FaultKind) (j : Subject) (f : FEntry → FEntry) (s : State) :
    (changeEntry k j f s).plans = s.plans := rfl

@[simp] theorem record_plans (k : FaultKind) (j : Subject) (s : State) : (record k j s).2.plans = s.plans := by
  unfold record
  simp only
  split
  · rfl
  · split
    · rfl
    · split <;> rfl

@[simp] theorem clearEntry_plans (k : FaultKind) (j : Subject) (s : State) : (clearEntry k j s).plans = s.plans := rfl

@[simp] theorem clearStandIns_plans (s : State) : (clearStandIns s).plans = s.plans :=
  foldl_plans (fun t (e : FEntry) => clearEntry_plans e.kind e.subject t) _ s

@[simp] theorem acceptClears_plans (s : State) : (acceptClears s).plans = s.plans :=
  foldl_plans (fun t (e : FEntry) => clearEntry_plans e.kind e.subject t) _ s

@[simp] theorem passEntry_plans (k : FaultKind) (j : Subject) (s : State) : (passEntry k j s).plans = s.plans :=
  plans_ite rfl rfl

@[simp] theorem takePassed_plans (k : FaultKind) (j : Subject) (s : State) : (takePassed k j s).plans = s.plans :=
  plans_ite (by simp) (by simp)

/-! ### Lamps, cables and readings -/

@[simp] theorem lampFaults_plans (c : Circuit) (x y : Lamp) (d : Byte) (s : State) :
    (lampFaults c x y d s).plans = s.plans := by
  simp [lampFaults, apply_ite State.plans]

@[simp] theorem lampPassed_plans (c : Circuit) (y : Lamp) (s : State) : (lampPassed c y s).plans = s.plans := by
  simp [lampPassed, apply_ite State.plans]

@[simp] theorem takeEvaluation_plans (c : Circuit) (n : BitVec 16) (r : Nat) (s : State) :
    (takeEvaluation c n r s).plans = s.plans := by
  simp [takeEvaluation, apply_ite State.plans, enterOut, learnDone, onCable, onLamp]

@[simp] theorem takeOffCheck_plans (c : Circuit) (r : Nat) (s : State) : (takeOffCheck c r s).plans = s.plans := by
  simp [takeOffCheck, apply_ite State.plans, onLamp]

@[simp] theorem takeCurrent_plans (x : Result) (c : Circuit) (s : State) : (takeCurrent x c s).plans = s.plans :=
  plans_ite rfl (plans_ite (plans_ite (by simp) rfl) (plans_ite (by simp) rfl))

@[simp] theorem cableFaults_plans (c : Circuit) (x y : Cable) (s : State) : (cableFaults c x y s).plans = s.plans := by
  simp [cableFaults]

@[simp] theorem cableStateAfter_plans (c : Circuit) (x : CableState) (s : State) :
    (cableStateAfter c x s).plans = s.plans :=
  plans_ite (plans_ite rfl rfl) (plans_ite rfl rfl)

@[simp] theorem setOverdue_plans (c : Circuit) (s : State) : (setOverdue c s).plans = s.plans := rfl

@[simp] theorem injectorFree_plans (c : Circuit) (b : Bool) (s : State) : (injectorFree c b s).plans = s.plans := by
  simp [injectorFree, apply_ite State.plans]

@[simp] theorem measurementFault_plans (a b : Bool) (s : State) : (measurementFault a b s).plans = s.plans := by
  simp [measurementFault]

@[simp] theorem takeOffset_plans (r : Nat) (s : State) : (takeOffset r s).plans = s.plans :=
  plans_ite rfl (by simp)

@[simp] theorem takeSupply_plans (r : Nat) (s : State) : (takeSupply r s).plans = s.plans := by
  simp [takeSupply]

@[simp] theorem bypassOn_plans (v : Nat) (s : State) : (bypassOn v s).plans = s.plans := by
  have dropped : (dropOffset s).plans = s.plans := by
    unfold dropOffset
    split
    · exact plans_ite (withdraw_plans _ s) rfl
    · exact plans_ite rfl rfl
    · rfl
  simp [bypassOn, dropped]

/-! ### Detectors and the line -/

@[simp] theorem holdDetector_plans (d : Detector) (s : State) : (holdDetector d s).plans = s.plans :=
  plans_ite (foldl_plans (fun t k => holdDemand_plans k t) _ s) rfl

@[simp] theorem postDemand_plans (k : Stage) (s : State) : (postDemand k s).plans = s.plans := plans_ite rfl rfl

@[simp] theorem postings_plans (d : Detector) (s : State) : (postings d s).plans = s.plans := by
  have extended (x : Flags 12) (t : State) : (extend x t).plans = t.plans := by
    unfold extend
    split
    · exact plans_ite rfl rfl
    · rfl
  rw [postings, extended]
  exact foldl_plans (fun t k => postDemand_plans k t) _ s

@[simp] theorem clearLatches_plans (d : Detector) (s : State) : (clearLatches d s).plans = s.plans := plans_ite rfl rfl

@[simp] theorem offer_plans (f : Frame) (s : State) : (offer f s).plans = s.plans := plans_ite rfl rfl

@[simp] theorem frameByte_plans (b : Byte) (s : State) : (frameByte b s).plans = s.plans := by
  unfold frameByte
  simp only
  split
  · rfl
  · exact plans_ite rfl rfl
  · rfl
  · refine plans_ite (plans_ite ?_ rfl) rfl
    split
    · simp
    · rfl

@[simp] theorem rxChar_plans (c : RxChar) (s : State) : (rxChar c s).plans = s.plans := by
  cases c with
  | framingError => rfl
  | byte b =>
    exact plans_ite (plans_ite rfl rfl) <| plans_ite rfl <| plans_ite
      (plans_ite (by simp) (plans_ite (by simp) rfl)) (plans_ite rfl (by simp))

end Sys2Proof.Machine
end

section
/-! PROOF. The plan in force and the pending plan stay VALID slots (R63): what takes the pending plan, what evaluates
the selection, what writes a slot, then every command, and `Obligations.StepKeepsPlanInForceValid` from it. -/

namespace Sys2Proof.Machine

variable {s t u : State}

/-! ### The two references -/

/-- The two references and the slots' states stand in the plans alone. -/
theorem PlansValid.congr (h : PlansValid s) (hplans : t.plans = s.plans) : PlansValid t := by
  rw [PlansValid, hplans]
  simp only [planAt, hplans]
  exact h

theorem plansValid_ite {p : Prop} [Decidable p] (ht : PlansValid t) (hu : PlansValid u) :
    PlansValid (if p then t else u) := by
  split <;> assumption

/-- R64: the selected slot is VALID. -/
theorem selected_valid {p : Slot} (h : selected s = some p) : (planAt s p).state = .valid := by
  have valid : validSlot s p = true := by
    unfold selected at h
    split at h
    next q hq => exact Option.some.inj h ▸ (Option.filter_eq_some_iff.mp hq).2
    next =>
      split at h
      next q hq => exact Option.some.inj h ▸ (Option.filter_eq_some_iff.mp hq).2
      next => exact List.find?_some h
  exact of_decide_eq_true valid

/-- R64: an evaluation keeps the plan in force and makes a VALID slot pending, if any. -/
theorem evaluate_plansValid (h : PlansValid s) : PlansValid (evaluate s) := by
  rw [evaluate_eq]
  rintro p (hp | hp)
  · exact h p (.inl hp)
  · refine selected_valid (s := s) ?_
    simp only at hp
    split at hp
    · exact absurd hp (by simp)
    · exact hp

/-- A change of a slot that is neither in force nor pending. -/
theorem onSlot_plansValid {p : Slot} (h : PlansValid s)
    (hp : ¬(s.plans.inForce = some p ∨ s.plans.pendingPlan = some p)) (f : PlanSlot → PlanSlot) :
    PlansValid (onSlot p f s) := by
  intro q hq
  have hne : p ≠ q := fun e => hp (e ▸ hq)
  rw [planAt, onSlot, State.onPlans_plans, Tab.get_modify, if_neg hne]
  exact h q hq

/-- A slot that is EDITING is neither in force nor pending. -/
theorem PlansValid.not_referenced {p : Slot} (h : PlansValid s) (hp : (planAt s p).state = .editing) :
    ¬(s.plans.inForce = some p ∨ s.plans.pendingPlan = some p) := fun hq => by simp [h p hq] at hp

/-- R67: the pending plan, if there is one, becomes the plan in force, and nothing else of the plans changes. -/
theorem takePlan_plans (o : Occasion) (s : State) : (takePlan o s).plans =
    { s.plans with inForce := s.plans.pendingPlan.or s.plans.inForce, pendingPlan := none } := by
  unfold takePlan
  split
  next h =>
    rw [h, Option.none_or, ← h]
  next p h => simp [holdDemands, forEach_plans, planChange, h]

theorem takePlan_plansValid (o : Occasion) (h : PlansValid s) : PlansValid (takePlan o s) := by
  intro p hp
  rw [takePlan_plans] at hp
  rw [planAt, takePlan_plans]
  refine h p ?_
  rcases hp with hp | hp
  · exact (Option.or_eq_some_iff.mp hp).elim .inr fun h => .inl h.2
  · exact absurd hp (by simp)

/-! ### The ends of stages -/

theorem commitEntry_plansValid (a : Option Stage) (o : Occasion) (h : PlansValid s) :
    PlansValid (commitEntry a o s) :=
  (takePlan_plansValid o h).congr (by simp [commitEntry])

theorem seqEnd_plansValid (h : PlansValid s) : PlansValid (seqEnd s) :=
  plansValid_ite (commitEntry_plansValid _ _ (plansValid_ite h h)) h

theorem terminate_plansValid (h : PlansValid s) : PlansValid (terminate s) :=
  plansValid_ite (commitEntry_plansValid _ _ h) h

theorem stageBegin_plansValid (k : Stage) (e : Entry) (n : Nat) (h : PlansValid s) :
    PlansValid (stageBegin k e n s) :=
  terminate_plansValid (h.congr (by simp [stageChange]))

theorem endInterstage_plansValid (h : PlansValid s) : PlansValid (endInterstage s) := by
  unfold endInterstage
  split
  · exact stageBegin_plansValid _ _ _ h
  · exact h

theorem afterLead_plansValid (tg : Target) (l : List TtEntry) (k : Option Stage) (h : PlansValid s) :
    PlansValid (afterLead tg l k s) := by
  unfold afterLead
  split
  · exact stageBegin_plansValid _ _ _ h
  · exact h
  · exact plansValid_ite h h

theorem leadExpires_plansValid (h : PlansValid s) : PlansValid (leadExpires s) :=
  afterLead_plansValid _ _ _ (plansValid_ite h (h.congr (stopCurrent_plans s)))

theorem seqAllRed_plansValid (h : PlansValid s) : PlansValid (seqAllRed s) :=
  plansValid_ite (h.congr (emptyTarget_plans _)) (terminate_plansValid h)

theorem seqMode_plansValid (prev new : Mode) (h : PlansValid s) : PlansValid (seqMode prev new s) := by
  unfold seqMode
  split
  · exact h.congr (stopCurrent_plans s)
  · exact h.congr (stopCurrent_plans s)
  · exact h.congr (seqStart_plans s)
  · exact seqAllRed_plansValid h
  · exact seqEnd_plansValid h
  · exact commitEntry_plansValid (s := noStage s) _ _ h
  · exact h

theorem advanceTo_plansValid (x : Stage) (h : PlansValid s) : PlansValid (advanceTo x s) := by
  unfold advanceTo
  split
  · exact plansValid_ite h (plansValid_ite h (commitEntry_plansValid _ _ h))
  · exact h
  · exact h
  · exact h

theorem minimumExpires_plansValid (h : PlansValid s) : PlansValid (minimumExpires s) := by
  have past : PlansValid (s.onSeq fun q => { q with substate := some (substatePast s) }) := h
  unfold minimumExpires
  simp only
  split
  · exact plansValid_ite (commitEntry_plansValid _ _ past) past
  · exact seqEnd_plansValid past

theorem startUpEnds_plansValid (h : PlansValid s) : PlansValid (startUpEnds s) := by
  have taken : PlansValid (takePlan .startUp (noStage s)) := takePlan_plansValid (s := noStage s) _ h
  exact plansValid_ite taken (commitEntry_plansValid _ _ taken)

/-! ### Changes of junction mode and the fault list -/

theorem changeMode_plansValid (new : Mode) (cause : ModeCause) (h : PlansValid s) :
    PlansValid (changeMode new cause s) := by
  have entered : PlansValid (if new = .dark then setAside (s.onFlt fun f => { f with mode := new })
      else s.onFlt fun f => { f with mode := new }) := plansValid_ite h h
  have handed := (seqMode_plansValid s.flt.mode new entered).congr (oswMode_plans new _)
  exact plansValid_ite (p := (s.flt.mode = .dark && new = .startUp) = true) (t := lmpRestart _) handed handed

theorem startUp_plansValid (cause : ModeCause) (h : PlansValid s) : PlansValid (startUp cause s) := by
  have started := (changeMode_plansValid .startUp cause h).congr (clearStandIns_plans _)
  unfold startUp
  simp only
  split
  · exact plansValid_ite (changeMode_plansValid _ _ started) started
  · exact started

theorem autoRestart_plansValid (h : PlansValid s) : PlansValid (autoRestart s) :=
  plansValid_ite (startUp_plansValid _ h) h

theorem takeClear_plansValid (k : FaultKind) (j : Subject) (h : PlansValid s) : PlansValid (takeClear k j s) := by
  unfold takeClear
  split
  · exact h
  · split
    · exact autoRestart_plansValid h
    · exact h
    · exact h

theorem respond_plansValid (r : Response) (k : FaultKind) (j : Subject) (h : PlansValid s) :
    PlansValid (respond r k j s) :=
  plansValid_ite (plansValid_ite h h) (plansValid_ite (changeMode_plansValid _ _ h) (changeMode_plansValid _ _ h))

theorem fltTake_plansValid (e : FltEvent) (h : PlansValid s) : PlansValid (fltTake e s) := by
  cases e with
  | raise k j d => exact respond_plansValid _ k j (h.congr (record_plans k j s))
  | clear k j => exact takeClear_plansValid k j h
  | passed k j => exact h.congr (takePassed_plans k j s)
  | firstInterstage => exact plansValid_ite (changeMode_plansValid _ _ h) h

theorem drain_plansValid (n : Nat) (h : PlansValid s) : PlansValid (drain n s) := by
  induction n generalizing s with
  | zero => exact h
  | succ n ih =>
    unfold drain
    split
    · exact h
    · exact ih (fltTake_plansValid _ h)

theorem settle_plansValid (h : PlansValid s) : PlansValid (settle s) :=
  (drain_plansValid eventFuel h).congr (measures_plans 0 _)

theorem conclude_plansValid (h : PlansValid s) : PlansValid (conclude s) := settle_plansValid h

/-! ### Results and detector events, where FLT takes its events in between -/

theorem completeTest_plansValid (w : Test) (n : Nat) (h : PlansValid s) : PlansValid (completeTest w n s) := by
  unfold completeTest
  exact (drain_plansValid eventFuel (h.congr (by simp [onCable]))).congr (cableStateAfter_plans _ _ _)

theorem takeCable_plansValid (x : Result) (h : PlansValid s) : PlansValid (takeCable x s) := by
  have moved (w : Test) : PlansValid (testResult w x.count s) := by
    unfold testResult
    split
    · exact plansValid_ite h h
    · exact h
    · exact h
    · exact completeTest_plansValid w x.count h
    · exact h
    · exact h
  unfold takeCable
  split
  · exact h
  · exact plansValid_ite (moved _) h

theorem deliver_plansValid (x : Result) (h : PlansValid s) : PlansValid (deliver x s) := by
  unfold deliver
  split
  · exact h.congr (takeCurrent_plans x _ s)
  · exact takeCable_plansValid x h
  · exact takeCable_plansValid x h
  · exact takeCable_plansValid x h
  · exact h.congr (takeOffset_plans _ s)
  · exact h.congr (measurementFault_plans _ _ _)
  · exact h.congr (takeSupply_plans _ s)

theorem endWindow_plansValid (v : Conv) (input : Int) (h : PlansValid s) : PlansValid (endWindow v input s) := by
  have settled {t : State} (ht : PlansValid t) : PlansValid (afterDelivery v t) :=
    (drain_plansValid eventFuel ht).congr (by simp [afterDelivery])
  refine settled ?_
  split
  · exact deliver_plansValid _ h
  · exact h

theorem monitor_plansValid (d : Detector) (f : Det1 → Det1) {tell : State → State}
    (htell : ∀ t, (tell t).plans = t.plans) (h : PlansValid s) : PlansValid (monitor d f tell s) :=
  drain_plansValid eventFuel (h.congr ((holdDetector_plans d _).trans (htell _)))

theorem detDone_plansValid (h : PlansValid s) : PlansValid (detDone s) :=
  conclude_plansValid (seqEnd_plansValid (h.congr (seqReact_plans s)))

theorem activation_plansValid (d : Detector) (h : PlansValid s) : PlansValid (activation d s) := by
  have silent {t : State} (ht : PlansValid t) : PlansValid (endSilent d t) :=
    plansValid_ite (monitor_plansValid d _ (clear_plans _ _) ht) ht
  have chatter {t : State} (ht : PlansValid t) : PlansValid (judgeChatter d t) :=
    plansValid_ite (monitor_plansValid d _ (raise_plans _ _) ht) ht
  exact detDone_plansValid (chatter (silent (h.congr (postings_plans d _))))

theorem release_plansValid (d : Detector) (h : PlansValid s) : PlansValid (release d s) :=
  detDone_plansValid (plansValid_ite (monitor_plansValid d _ (clear_plans _ _) h) h)

theorem inputChange_plansValid (d : Detector) (closed : Bool) (h : PlansValid s) :
    PlansValid (inputChange d closed s) :=
  plansValid_ite h <| plansValid_ite h <| plansValid_ite
    (plansValid_ite (activation_plansValid d h) (release_plansValid d h)) h

theorem intervalEnd_plansValid (d : Detector) (h : PlansValid s) : PlansValid (intervalEnd d s) :=
  plansValid_ite (plansValid_ite (monitor_plansValid d _ (clear_plans _ _) h) h) h

theorem forEach_plansValid {n : Nat} {f : Fin n → State → State} (hf : ∀ i t, PlansValid t → PlansValid (f i t))
    (h : PlansValid s) : PlansValid (forEach f s) := by
  unfold forEach
  induction allFin n generalizing s with
  | nil => exact h
  | cons i l ih => exact ih (hf i s h)

/-! ### Requests -/

/-- The effects of a request keep the plan in force and the pending plan VALID. -/
def Judge.KeepsPlans (judge : Judge) : Prop := ∀ s, PlansValid s → PlansValid (judge s).2

theorem plansValid_ite_answer {p : Prop} [Decidable p] {x y : Answer × State} (hx : PlansValid x.2)
    (hy : PlansValid y.2) : PlansValid (if p then x else y).2 := by
  split <;> assumption

/-- An answer with effects that are settled. -/
theorem settled_plansValid {a : Answer} (h : PlansValid s) : PlansValid (a, settle s).2 := settle_plansValid h

theorem withSlot_keepsPlans (body : List Byte) {judge : Slot → Judge} (hj : ∀ p, (judge p).KeepsPlans) :
    (withSlot body judge).KeepsPlans := by
  intro s h
  unfold withSlot
  split
  · exact hj _ s h
  · exact h

theorem withFitted_keepsPlans (body : List Byte) {judge : Circuit → Judge} (hj : ∀ c, (judge c).KeepsPlans) :
    (withFitted body judge).KeepsPlans := by
  intro s h
  unfold withFitted
  split
  · exact plansValid_ite_answer (hj _ s h) h
  · exact h

/-- R58: a plan write reaches its slot while it is EDITING alone. -/
theorem whileEditing_keepsPlans {p : Slot} {judge : Judge}
    (hj : ∀ s, PlansValid s → (planAt s p).state = .editing → PlansValid (judge s).2) :
    (whileEditing p judge).KeepsPlans := by
  intro s h
  unfold whileEditing
  split
  next hedit => exact hj s h hedit
  next => exact h

theorem checkedPlan_plansValid {p : Slot} (checks : List (Nat × Bool)) (f : PlanSlot → PlanSlot) (h : PlansValid s)
    (hedit : (planAt s p).state = .editing) : PlansValid (checkedPlan p checks f s).2 := by
  unfold checkedPlan
  split
  · exact h
  · exact onSlot_plansValid h (h.not_referenced hedit) f

theorem judgePlanOpen_keepsPlans (p : Slot) : (judgePlanOpen p).KeepsPlans := by
  intro s h
  unfold judgePlanOpen
  split
  next => exact h
  next hfree => exact plansValid_ite_answer h (onSlot_plansValid h (by simpa using hfree) _)

theorem judgePlanClose_plansValid {p : Slot} (h : PlansValid s) (hedit : (planAt s p).state = .editing) :
    PlansValid (judgePlanClose p s).2 :=
  evaluate_plansValid (onSlot_plansValid h (h.not_referenced hedit) _)

theorem writeTimings_plansValid {p : Slot} (body : List Byte) (h : PlansValid s)
    (hedit : (planAt s p).state = .editing) : PlansValid (writeTimings body p s).2 := by
  unfold writeTimings
  split
  · exact h
  · exact checkedPlan_plansValid _ _ h hedit

theorem judgePlanSelect_keepsPlans (body : List Byte) : (judgePlanSelect body).KeepsPlans := fun s h =>
  plansValid_ite_answer (evaluate_plansValid (s := s.onPlans _) h) h

theorem judgeScheduleWrite_keepsPlans (body : List Byte) : (judgeScheduleWrite body).KeepsPlans := by
  intro s h
  unfold judgeScheduleWrite
  split
  · exact h
  · split
    · exact h
    · exact h
    · exact evaluate_plansValid (s := s.onPlans _) h

theorem judgeClockSet_keepsPlans (body : List Byte) : (judgeClockSet body).KeepsPlans := by
  intro s h
  unfold judgeClockSet
  split
  · exact h
  · split
    · exact h
    · exact evaluate_plansValid (s := s.onPlans _) h

/-- R17, R64: validated slots leave a plan in force that is VALID, and the evaluation selects a VALID one. -/
theorem Revised.plansValid {P : Plans} (h : Revised s P) : PlansValid { s with plans := P } := by
  obtain ⟨-, hinForce, hpending⟩ := h
  rintro p (hp | hp)
  · exact ((hinForce p).mp hp).2
  · refine selected_valid ?_
    rw [hpending] at hp
    split at hp
    · exact absurd hp (by simp)
    · exact hp

theorem accept_plansValid (s : State) : PlansValid (accept s) := by
  unfold accept
  simp only
  generalize enterDark _ _ _ = u
  obtain ⟨P, hrevised, heval⟩ := evaluate_revalidated u
  exact hrevised.plansValid.congr (by simp [heval])

theorem judgeAccept_keepsPlans : Judge.KeepsPlans judgeAccept := by
  intro s h
  unfold judgeAccept
  split
  · split
    · exact h
    · exact settled_plansValid (accept_plansValid s)
  · exact h

theorem judgeOpen_keepsPlans : Judge.KeepsPlans judgeOpen := by
  intro s h
  have opened : PlansValid (if s.flt.mode = .dark then
      changeMode .unconfigured (.request 0x01) (s.onJds fun j => { j with desc := .editing })
      else s.onJds fun j => { j with desc := .editing }) :=
    plansValid_ite (changeMode_plansValid _ _ h) h
  unfold judgeOpen
  simp only
  split
  · exact settled_plansValid (opened.congr (by simp [stopDebounce]))
  · exact h

theorem judgeRestart_keepsPlans : Judge.KeepsPlans judgeRestart := by
  intro s h
  have permitted : PlansValid (s.onFlt fun f => { f with restartPermitted := true }) := h
  exact plansValid_ite_answer h <| plansValid_ite_answer h <| plansValid_ite_answer h <| plansValid_ite_answer h <|
    settled_plansValid (startUp_plansValid _ permitted)

theorem judgeResume_keepsPlans : Judge.KeepsPlans judgeResume := fun _ h =>
  plansValid_ite_answer h <| plansValid_ite_answer h <| plansValid_ite_answer h <|
    settled_plansValid (changeMode_plansValid _ _ h)

theorem judgeAllRed_keepsPlans : Judge.KeepsPlans judgeAllRed := by
  intro s h
  have left := settle_plansValid (changeMode_plansValid .allRed (.request 0x1A) h)
  unfold judgeAllRed
  split <;> assumption

theorem judgeDark_keepsPlans : Judge.KeepsPlans judgeDark := fun s h =>
  have entered : PlansValid (s.onFlt fun f => { f with restartPermitted := false, darkCause := .host }) := h
  plansValid_ite_answer h <| plansValid_ite_answer entered <| settled_plansValid (changeMode_plansValid _ _ entered)

theorem judgeHold_keepsPlans : Judge.KeepsPlans judgeHold := by
  intro s h
  have held := settle_plansValid (changeMode_plansValid .hold (.request 0x1C) h)
  unfold judgeHold
  split <;> assumption

theorem judgeRelease_keepsPlans : Judge.KeepsPlans judgeRelease := by
  intro s h
  have resumed := settle_plansValid (changeMode_plansValid .run (.request 0x1D) h)
  unfold judgeRelease
  split <;> assumption

theorem judgeAdvance_keepsPlans (body : List Byte) : (judgeAdvance body).KeepsPlans := by
  intro s h
  unfold judgeAdvance
  split
  · exact h
  · split
    · exact h
    · exact plansValid_ite_answer (settled_plansValid (advanceTo_plansValid _ h)) h

theorem judgeDemand_keepsPlans (body : List Byte) : (judgeDemand body).KeepsPlans := by
  intro s h
  unfold judgeDemand
  split
  · exact h
  · exact plansValid_ite_answer (settled_plansValid (seqEnd_plansValid (h.congr (by simp)))) h

theorem judgeLearn_keepsPlans (c : Circuit) : (judgeLearn c).KeepsPlans := fun _ h =>
  plansValid_ite_answer h (settled_plansValid (h.congr (lampFaults_plans _ _ _ _ _)))

theorem judgeTestNow_keepsPlans (c : Circuit) : (judgeTestNow c).KeepsPlans := fun s h =>
  plansValid_ite_answer h (settled_plansValid (s := onCable c _ s) h)

theorem judgeSuspend_keepsPlans (c : Circuit) : (judgeSuspend c).KeepsPlans := fun s h =>
  have stopped : PlansValid (if testOn s c then abandon s else s) := plansValid_ite (h.congr (abandon_plans s)) h
  plansValid_ite_answer h (settled_plansValid (stopped.congr rfl))

theorem judgeUnsuspend_keepsPlans (c : Circuit) : (judgeUnsuspend c).KeepsPlans := fun _ h =>
  plansValid_ite_answer (settled_plansValid (plansValid_ite h h)) h

theorem judgeDetectorRead_keepsPlans (body : List Byte) : (judgeDetectorRead body).KeepsPlans := by
  intro s h
  unfold judgeDetectorRead
  split
  · exact h.congr (forEach_plans clearLatches_plans s)
  · split
    · exact h.congr (clearLatches_plans _ s)
    · exact h

theorem judgeWrite_keepsPlans (body : List Byte) : (judgeWrite body).KeepsPlans := fun _ h =>
  plansValid_ite_answer h h

theorem takeFaultClear_plansValid (l : List FEntry) (h : PlansValid s) : PlansValid (takeFaultClear l s) :=
  settle_plansValid (plansValid_ite (autoRestart_plansValid h) h)

theorem judgeClearOne_keepsPlans (body : List Byte) : (judgeClearOne body).KeepsPlans := by
  intro s h
  unfold judgeClearOne
  split
  · exact h
  · split
    · exact h
    · split
      · exact h
      · exact plansValid_ite_answer (takeFaultClear_plansValid _ h) h

theorem judgeClearAll_keepsPlans (body : List Byte) : (judgeClearAll body).KeepsPlans := fun _ h =>
  plansValid_ite_answer (takeFaultClear_plansValid _ h) h

theorem judgeReportControl_keepsPlans (body : List Byte) : (judgeReportControl body).KeepsPlans := fun _ h =>
  plansValid_ite_answer h h

theorem judgeLinkStatus_keepsPlans (body : List Byte) : (judgeLinkStatus body).KeepsPlans := fun _ h =>
  plansValid_ite_answer h h

theorem judgeMeasureOn_keepsPlans (body : List Byte) : (judgeMeasureOn body).KeepsPlans := fun s h =>
  plansValid_ite_answer
    (plansValid_ite_answer h (settled_plansValid (h.congr (bypassOn_plans _ s)))) h

theorem judgeMeasureOff_keepsPlans : Judge.KeepsPlans judgeMeasureOff := fun _ h =>
  plansValid_ite_answer (settled_plansValid h) h

/-! ### Commands -/

/-- The state a command answers keeps the plan in force and the pending plan VALID. -/
def KeepsPlans (s : State) (o : Host.Outcome State Fault Refusal) : Prop :=
  PlansValid s → ∀ t, o = .next t → PlansValid t

theorem keepsPlans_next (h : PlansValid s → PlansValid t) : KeepsPlans s (.next t) := by
  rintro hs _ ⟨⟩
  exact h hs

theorem keepsPlans_ite {p : Prop} [Decidable p] {x y : Host.Outcome State Fault Refusal} (hx : KeepsPlans s x)
    (hy : KeepsPlans s y) : KeepsPlans s (if p then x else y) := by
  split <;> assumption

/-- A command that acts where its condition holds, and changes nothing where it does not (log 1). -/
theorem keepsPlans_when {p : Prop} [Decidable p] (h : PlansValid s → PlansValid t) :
    KeepsPlans s (if p then .next t else .next s) :=
  keepsPlans_ite (keepsPlans_next h) (keepsPlans_next id)

theorem serve_keepsPlans (kind tag : Byte) (body : List Byte) (row fits : Bool) {judge : Judge}
    (hj : judge.KeepsPlans) (s : State) : KeepsPlans s (serve kind tag body row fits judge s) :=
  keepsPlans_when fun h => plansValid_ite_answer (hj (takeRequest s) h) h

theorem reads_keepsPlans (fields : State → Answer) : (reads fields).KeepsPlans := fun _ h => h

/-- The end of a change of a relay or of the contactor. -/
theorem oswDone_plansValid (h : PlansValid s) : PlansValid (oswDone s) :=
  conclude_plansValid (h.congr (oswAfter_plans s))

theorem execUnknownRequest_keepsPlans (kind tag : Byte) (body : List Byte) (s : State) :
    KeepsPlans s (execUnknownRequest kind tag body s) := keepsPlans_when id

theorem execClockSecond_keepsPlans (s : State) : KeepsPlans s (execClockSecond s) := by
  unfold execClockSecond
  split
  · exact keepsPlans_next id
  · exact keepsPlans_when fun h => plansValid_ite (evaluate_plansValid (s := s.onPlans _) h) h

theorem execTimetableEntryDue_keepsPlans (s : State) : KeepsPlans s (execTimetableEntryDue s) := by
  unfold execTimetableEntryDue
  split
  · exact keepsPlans_when fun h => conclude_plansValid (h.congr (reachEntry_plans _ s))
  · exact keepsPlans_next id

theorem execRedProofTimeout_keepsPlans (s : State) : KeepsPlans s (execRedProofTimeout s) := by
  have raised (e : TtEntry) : (raiseTimeout e s).plans = s.plans := by
    unfold raiseTimeout
    split <;> rfl
  unfold execRedProofTimeout
  split
  · exact keepsPlans_when fun h => conclude_plansValid (h.congr (raised _))
  · exact keepsPlans_next id

theorem execConversionComplete_keepsPlans (input : Int) (s : State) :
    KeepsPlans s (execConversionComplete input s) := by
  unfold execConversionComplete
  split
  · exact keepsPlans_next id
  · exact keepsPlans_when fun h => endWindow_plansValid _ input h

theorem execInjectorLoadSettle_keepsPlans (s : State) : KeepsPlans s (execInjectorLoadSettle s) := by
  unfold execInjectorLoadSettle
  split
  · exact keepsPlans_next fun h => conclude_plansValid (s := nextStep _ _ s) h
  · exact keepsPlans_next id

theorem execInjectorTestSettle_keepsPlans (s : State) : KeepsPlans s (execInjectorTestSettle s) := by
  unfold execInjectorTestSettle
  split
  · exact keepsPlans_next fun h => conclude_plansValid (s := nextStep _ _ s) h
  · exact keepsPlans_next id

theorem execInjectorClear_keepsPlans (s : State) : KeepsPlans s (execInjectorClear s) := by
  unfold execInjectorClear
  split
  · exact keepsPlans_next fun h => conclude_plansValid (h.congr (injectorFree_plans _ _ s))
  · exact keepsPlans_next id

theorem execInjectorStuck_keepsPlans (s : State) : KeepsPlans s (execInjectorStuck s) := by
  unfold execInjectorStuck
  split
  · exact keepsPlans_when fun h => conclude_plansValid (h.congr (raise_plans _ _ _))
  · exact keepsPlans_next id

theorem execChatterIntervalEnd_keepsPlans (s : State) : KeepsPlans s (execChatterIntervalEnd s) := by
  refine keepsPlans_when fun h => ?_
  have begun : PlansValid (s.onDet fun x => { x with intervalMs := x.intervalMs - 1000 }) :=
    h.congr (State.onDet_plans s _)
  exact detDone_plansValid (forEach_plansValid (fun d _ => intervalEnd_plansValid d) begun)

theorem execRelayFeedbackChange_keepsPlans (input : Contact) (closed : Bool) (s : State) :
    KeepsPlans s (execRelayFeedbackChange input closed s) := by
  cases input with
  | relay c => exact keepsPlans_next id
  | contactor => exact keepsPlans_next id

/-- R63: the pending plan changes by an evaluation, which selects a VALID slot, or is taken, and no slot that is in
force or pending is written. -/
theorem exec_keepsPlans (i : Instr) (s : State) : KeepsPlans s (exec i s) := by
  cases i with
  | partReset rate1 rate0 => exact keepsPlans_next fun _ p hp => by simp [partReset] at hp
  | junctionOpen tag body => exact serve_keepsPlans _ _ _ _ _ judgeOpen_keepsPlans s
  | junctionWrite tag body => exact serve_keepsPlans _ _ _ _ _ (judgeWrite_keepsPlans body) s
  | junctionAccept tag body => exact serve_keepsPlans _ _ _ _ _ judgeAccept_keepsPlans s
  | junctionRead tag body => exact serve_keepsPlans _ _ _ _ _ (reads_keepsPlans _) s
  | planOpen tag body => exact serve_keepsPlans _ _ _ _ _ (withSlot_keepsPlans body judgePlanOpen_keepsPlans) s
  | planWriteHeader tag body =>
    exact serve_keepsPlans _ _ _ _ _ (withSlot_keepsPlans body fun _ => whileEditing_keepsPlans fun _ =>
      checkedPlan_plansValid _ _) s
  | planWriteSequence tag body =>
    exact serve_keepsPlans _ _ _ _ _ (withSlot_keepsPlans body fun _ => whileEditing_keepsPlans fun _ =>
      checkedPlan_plansValid _ _) s
  | planWriteEntryTiming tag body =>
    exact serve_keepsPlans _ _ _ _ _ (withSlot_keepsPlans body fun _ => whileEditing_keepsPlans fun _ =>
      writeTimings_plansValid body) s
  | planClose tag body =>
    exact serve_keepsPlans _ _ _ _ _ (withSlot_keepsPlans body fun _ => whileEditing_keepsPlans fun _ =>
      judgePlanClose_plansValid) s
  | planRead tag body => exact serve_keepsPlans _ _ _ _ _ (withSlot_keepsPlans body fun _ => reads_keepsPlans _) s
  | planSelect tag body => exact serve_keepsPlans _ _ _ _ _ (judgePlanSelect_keepsPlans body) s
  | scheduleWrite tag body => exact serve_keepsPlans _ _ _ _ _ (judgeScheduleWrite_keepsPlans body) s
  | scheduleRead tag body => exact serve_keepsPlans _ _ _ _ _ (reads_keepsPlans _) s
  | clockSet tag body => exact serve_keepsPlans _ _ _ _ _ (judgeClockSet_keepsPlans body) s
  | clockRead tag body => exact serve_keepsPlans _ _ _ _ _ (reads_keepsPlans _) s
  | restart tag body => exact serve_keepsPlans _ _ _ _ _ judgeRestart_keepsPlans s
  | resume tag body => exact serve_keepsPlans _ _ _ _ _ judgeResume_keepsPlans s
  | goAllRed tag body => exact serve_keepsPlans _ _ _ _ _ judgeAllRed_keepsPlans s
  | goDark tag body => exact serve_keepsPlans _ _ _ _ _ judgeDark_keepsPlans s
  | hold tag body => exact serve_keepsPlans _ _ _ _ _ judgeHold_keepsPlans s
  | releaseHold tag body => exact serve_keepsPlans _ _ _ _ _ judgeRelease_keepsPlans s
  | advance tag body => exact serve_keepsPlans _ _ _ _ _ (judgeAdvance_keepsPlans body) s
  | demandInsert tag body => exact serve_keepsPlans _ _ _ _ _ (judgeDemand_keepsPlans body) s
  | statusRead tag body => exact serve_keepsPlans _ _ _ _ _ (reads_keepsPlans _) s
  | circuitRead tag body => exact serve_keepsPlans _ _ _ _ _ (reads_keepsPlans _) s
  | lampLearn tag body => exact serve_keepsPlans _ _ _ _ _ (withFitted_keepsPlans body judgeLearn_keepsPlans) s
  | cableTestNow tag body => exact serve_keepsPlans _ _ _ _ _ (withFitted_keepsPlans body judgeTestNow_keepsPlans) s
  | cableSuspend tag body => exact serve_keepsPlans _ _ _ _ _ (withFitted_keepsPlans body judgeSuspend_keepsPlans) s
  | cableResume tag body => exact serve_keepsPlans _ _ _ _ _ (withFitted_keepsPlans body judgeUnsuspend_keepsPlans) s
  | detectorRead tag body => exact serve_keepsPlans _ _ _ _ _ (judgeDetectorRead_keepsPlans body) s
  | faultListRead tag body => exact serve_keepsPlans _ _ _ _ _ (reads_keepsPlans _) s
  | faultClear tag body => exact serve_keepsPlans _ _ _ _ _ (judgeClearOne_keepsPlans body) s
  | faultClearAll tag body => exact serve_keepsPlans _ _ _ _ _ (judgeClearAll_keepsPlans body) s
  | measureSetOn tag body => exact serve_keepsPlans _ _ _ _ _ (judgeMeasureOn_keepsPlans body) s
  | measureSetOff tag body => exact serve_keepsPlans _ _ _ _ _ judgeMeasureOff_keepsPlans s
  | measureRead tag body => exact serve_keepsPlans _ _ _ _ _ (reads_keepsPlans _) s
  | reportControl tag body => exact serve_keepsPlans _ _ _ _ _ (judgeReportControl_keepsPlans body) s
  | linkStatusRead tag body => exact serve_keepsPlans _ _ _ _ _ (judgeLinkStatus_keepsPlans body) s
  | linkStatusReadAndZero tag body => exact serve_keepsPlans _ _ _ _ _ (fun _ h => h) s
  | unknownRequest kind tag body => exact execUnknownRequest_keepsPlans kind tag body s
  | frameReceived chars =>
    exact keepsPlans_ite (keepsPlans_next id) (keepsPlans_next fun h =>
      h.congr (foldl_plans (fun t c => rxChar_plans c t) chars s))
  | gapTimeout => exact keepsPlans_when id
  | breakRecognised => exact keepsPlans_ite (keepsPlans_next id) (keepsPlans_next id)
  | linkReset => exact keepsPlans_when id
  | lineReadyChange asserted => exact keepsPlans_next id
  | frameSent => exact keepsPlans_when id
  | clockSecond => exact execClockSecond_keepsPlans s
  | minimumGreenExpiry => exact keepsPlans_when fun h => conclude_plansValid (minimumExpires_plansValid h)
  | gapExpiry => exact keepsPlans_when fun h => conclude_plansValid (seqEnd_plansValid h)
  | maximumGreenReached => exact keepsPlans_when fun h => conclude_plansValid (seqEnd_plansValid h)
  | fixedDurationReached => exact keepsPlans_when fun h => conclude_plansValid (seqEnd_plansValid h)
  | floorWaitReached => exact keepsPlans_when fun h => conclude_plansValid (terminate_plansValid h)
  | commitLeadExpiry => exact keepsPlans_when fun h => conclude_plansValid (leadExpires_plansValid h)
  | timetableEntryDue => exact execTimetableEntryDue_keepsPlans s
  | redProofTimeout => exact execRedProofTimeout_keepsPlans s
  | interstageEnd => exact keepsPlans_when fun h => conclude_plansValid (endInterstage_plansValid h)
  | startUpAllRedExpiry => exact keepsPlans_when fun h => conclude_plansValid (startUpEnds_plansValid h)
  | detectorInputChange d closed =>
    exact keepsPlans_ite (keepsPlans_next id) (keepsPlans_next fun h => inputChange_plansValid d closed h)
  | detectorActivation d => exact keepsPlans_when fun h => activation_plansValid d h
  | detectorRelease d => exact keepsPlans_when fun h => release_plansValid d h
  | detectorStuckOn d =>
    exact keepsPlans_when fun h => detDone_plansValid (monitor_plansValid d _ (raise_plans _ _) h)
  | detectorSilent d =>
    exact keepsPlans_when fun h => detDone_plansValid (monitor_plansValid d _ (raise_plans _ _) h)
  | chatterIntervalEnd => exact execChatterIntervalEnd_keepsPlans s
  | relayFeedbackChange input closed => exact execRelayFeedbackChange_keepsPlans input closed s
  | relayFeedbackAccepted c => exact keepsPlans_when fun h => oswDone_plansValid (h.congr (relayTo_plans c _ s))
  | relayTransitionTimeout c => exact keepsPlans_when fun h => oswDone_plansValid (h.congr (relayTo_plans c _ s))
  | contactorFeedbackAccepted => exact keepsPlans_when fun h => oswDone_plansValid (h.congr (contactorTo_plans _ s))
  | contactorTransitionTimeout => exact keepsPlans_when fun h => oswDone_plansValid (h.congr (contactorTo_plans _ s))
  | deadTimeElapsed c => exact keepsPlans_when oswDone_plansValid
  | signalsOffInputChange asserted => exact keepsPlans_ite (keepsPlans_next id) (keepsPlans_next id)
  | signalsOffAsserted => exact keepsPlans_when fun h => conclude_plansValid (h.congr (raise_plans _ _ _))
  | signalsOffReleased => exact keepsPlans_when fun h => conclude_plansValid (h.congr (clear_plans _ _ _))
  | diagnosticDue =>
    exact keepsPlans_ite (keepsPlans_next fun h => conclude_plansValid (s := s.onMea _) h)
      (keepsPlans_when conclude_plansValid)
  | conversionComplete input => exact execConversionComplete_keepsPlans input s
  | lampSettleTimeElapsed c => exact keepsPlans_when conclude_plansValid
  | offCheckEligibilityTime c => exact keepsPlans_when conclude_plansValid
  | cableEligibilityTime c => exact keepsPlans_when conclude_plansValid
  | cablePeriodElapsed c => exact keepsPlans_when conclude_plansValid
  | injectorLoadSettle => exact execInjectorLoadSettle_keepsPlans s
  | injectorTestSettle => exact execInjectorTestSettle_keepsPlans s
  | injectorClear => exact execInjectorClear_keepsPlans s
  | injectorStuck => exact execInjectorStuck_keepsPlans s
  | testOverdue c => exact keepsPlans_when id
  | noise b => exact keepsPlans_when fun h => h.congr (rxChar_plans _ s)

/-- A millisecond moves the clock's own count alone. -/
theorem idle_plansValid (h : PlansValid s) : PlansValid (idle s) := by
  have ended : PlansValid (endMoment s) := plansValid_ite (oswDone_plansValid (s := s.onOsw _) h) h
  intro p hp
  rw [idle, plans_tick] at hp
  rw [planAt, idle, plans_tick]
  exact ended p hp

end Sys2Proof.Machine

namespace Sys2Proof.Proofs

open Sys2Proof Sys2Proof.Machine

/-- Settles O8: `exec_keepsPlans`, command by command, and `idle_plansValid` for a step on an empty queue. -/
theorem stepKeepsPlanInForceValid : Obligations.StepKeepsPlanInForceValid := by
  unfold Obligations.StepKeepsPlanInForceValid
  intro s t h hstep
  unfold step at hstep
  split at hstep
  next => exact Host.Outcome.next.inj hstep ▸ idle_plansValid h
  next c rest _ => exact exec_keepsPlans c { s with pending := rest } h t hstep

end Sys2Proof.Proofs
end

section
/-! PROOF. A request about a plan slot, the schedule or the clock: its fields, its reply, and the selection evaluation
it may end with (R64, R192, R200). -/

namespace Sys2Proof.Machine

variable {s t u : State}

/-! ### Numbers and bytes (R200) -/

@[simp] theorem byteAt_cons_zero (b : Byte) (l : List Byte) : byteAt (b :: l) 0 = b.toNat := rfl

@[simp] theorem byteAt_cons_succ (b : Byte) (l : List Byte) (i : Nat) : byteAt (b :: l) (i + 1) = byteAt l i := rfl

theorem b8_toNat {n : Nat} (h : n < 256) : (b8 n).toNat = n := by
  rw [b8, BitVec.toNat_ofNat, Nat.mod_eq_of_lt h]

theorem index?_of_lt {n k : Nat} (h : k < n) : index? n (k + 1) = some ⟨k, h⟩ := dif_pos (by omega)

theorem index?_eq_none {n k : Nat} (h : ¬(1 ≤ k ∧ k ≤ n)) : index? n k = none := dif_neg h

theorem number_toNat {n : Nat} (hn : n < 256) (i : Fin n) : (number i).toNat = i.val + 1 := b8_toNat (by omega)

/-- The number of a thing names that thing. -/
theorem index?_number {n : Nat} (hn : n < 256) (i : Fin n) : index? n (number i).toNat = some i := by
  rw [number_toNat hn, index?_of_lt i.isLt]

/-- A byte that is no thing's number names none. -/
theorem index?_of_ne_number {n : Nat} {b : Byte} (h : ∀ i : Fin n, b ≠ number i) : index? n b.toNat = none := by
  refine index?_eq_none fun ⟨hlo, hhi⟩ => h ⟨b.toNat - 1, by omega⟩ ?_
  have hsame : b.toNat - 1 + 1 = b.toNat := by omega
  simp only [number, b8, hsame, BitVec.ofNat_toNat, BitVec.setWidth_eq]

/-- A number, or 0 for none. -/
theorem index?_number? {n : Nat} (hn : n < 256) (o : Option (Fin n)) : index? n (number? o).toNat = o := by
  cases o with
  | none => exact index?_eq_none (by simp [number?])
  | some i => exact index?_number hn i

/-! ### The request and its reply (R192) -/

theorem serve_of_judge {kind tag : Byte} {body : List Byte} {fits : Bool} {judge : Judge} {a : Answer}
    (h : takes s kind tag body = true) (hfits : fits = true) (hjudge : judge (takeRequest s) = (a, u)) :
    serve kind tag body true fits judge s = .next (finish (reply (kind + 0x80) tag a u)) := by
  rw [hfits, serve_of_takes h, hjudge]

theorem withSlot_number (p : Slot) (l : List Byte) (judge : Slot → Judge) (s : State) :
    withSlot (number p :: l) judge s = judge p s := by
  rw [withSlot, byteAt_cons_zero, index?_number (by decide)]

theorem withSlot_of_none {b : Byte} (h : index? 4 b.toNat = none) (l : List Byte) (judge : Slot → Judge) (s : State) :
    withSlot (b :: l) judge s = (.badField 1, s) := by
  rw [withSlot, byteAt_cons_zero, h]

/-- A request that changes the plans alone. -/
theorem replied_of_plans (kind tag : Byte) (a : Answer) (s : State) (P : Plans) :
    Replied s kind tag a { s with plans := P } (finish (reply kind tag a { takeRequest s with plans := P })) := by
  unfold Replied finish reply takeRequest State.onLnk
  rw [Lnk.start_frame, Lnk.taken_eq]

/-! ### The selection evaluation (R64) -/

/-- R64: the evaluation changes the last activated choice and the pending plan, and posts. -/
theorem evaluate_plans (s : State) : (evaluate s).plans =
    { s.plans with
      lastChoice := choiceWithSlot s
      pendingPlan := if selected s = s.plans.inForce then none else selected s } := by
  rw [evaluate_eq]

/-- R64: what it leaves pending is what is selected after it, unless that is in force. -/
theorem pendingPlan_of_evaluated (h : t.plans = (evaluate s).plans) :
    t.plans.pendingPlan = if selected t = t.plans.inForce then none else selected t := by
  have hsel : selected t = selected s := by
    refine selected_congr ?_ ?_ ?_ ?_ <;> rw [h, evaluate_plans]
  rw [hsel, h, evaluate_plans]

/-- A request that changes the plans of `s` to `P` and evaluates the selection, answered and done. -/
def evaluatedReply (kind tag : Byte) (a : Answer) (s : State) (P : Plans) : State :=
  finish (reply kind tag a (evaluate { takeRequest s with plans := P }))

theorem evaluatedReply_plans (kind tag : Byte) (a : Answer) (s : State) (P : Plans) :
    (evaluatedReply kind tag a s P).plans = (evaluate { s with plans := P }).plans := by
  have hchoice : choiceWithSlot { takeRequest s with plans := P } = choiceWithSlot { s with plans := P } :=
    choiceWithSlot_congr rfl rfl
  have hselected : selected { takeRequest s with plans := P } = selected { s with plans := P } :=
    selected_congr rfl rfl rfl rfl
  show (evaluate { takeRequest s with plans := P }).plans = _
  rw [evaluate_plans, evaluate_plans, hchoice, hselected]

theorem evaluatedReply_answered (kind tag : Byte) (a : Answer) (s : State) (P : Plans) :
    Answered s kind tag a (evaluatedReply kind tag a s P) :=
  answered_of_effects (by rw [evaluate_eq]; exact Lnk.posted_frame _ _ _)

/-- What such a request leaves, the link apart. -/
structure Reevaluated (s : State) (P : Plans) (t : State) : Prop where
  slot : t.plans.slot = P.slot
  inForce : t.plans.inForce = P.inForce
  override : t.plans.override = P.override
  schedule : t.plans.schedule = P.schedule
  clock : t.plans.clock = P.clock
  pendingPlan : t.plans.pendingPlan = if selected t = t.plans.inForce then none else selected t
  jds : t.jds = s.jds
  seq : t.seq = s.seq
  flt : t.flt = s.flt

theorem evaluatedReply_reevaluated (kind tag : Byte) (a : Answer) (s : State) (P : Plans) :
    Reevaluated s P (evaluatedReply kind tag a s P) := by
  have hplans := evaluatedReply_plans kind tag a s P
  have hframe : (evaluatedReply kind tag a s P).jds = s.jds ∧ (evaluatedReply kind tag a s P).seq = s.seq ∧
      (evaluatedReply kind tag a s P).flt = s.flt := by
    rw [evaluatedReply, evaluate_eq]
    exact ⟨rfl, rfl, rfl⟩
  obtain ⟨hjds, hseq, hflt⟩ := hframe
  exact {
    slot := by rw [hplans, evaluate_plans]
    inForce := by rw [hplans, evaluate_plans]
    override := by rw [hplans, evaluate_plans]
    schedule := by rw [hplans, evaluate_plans]
    clock := by rw [hplans, evaluate_plans]
    pendingPlan := pendingPlan_of_evaluated hplans
    jds := hjds, seq := hseq, flt := hflt }

/-! ### PLAN-OPEN (R57) -/

theorem judgePlanOpen_eq (p : Slot) (s : State) : judgePlanOpen p s =
    if s.plans.inForce = some p ∨ s.plans.pendingPlan = some p then (.no .slotInUse, s)
    else if ∃ q, q ≠ p ∧ (planAt s q).state = .editing then (.no .otherSlotOpen, s)
    else (.ok, onSlot p (fun _ => { state := .editing }) s) := by
  simp only [judgePlanOpen, Bool.or_eq_true, decide_eq_true_eq, List.any_eq_true, Bool.and_eq_true, mem_allFin,
    true_and]

theorem planOpen_of_takes {tag b : Byte} {a : Answer} (h : takes s 0x08 tag [b] = true)
    (hjudge : withSlot [b] judgePlanOpen (takeRequest s) = (a, u)) :
    exec (.planOpen tag [b]) s = .next (finish (reply 0x88 tag a u)) := serve_of_judge h rfl hjudge

end Sys2Proof.Machine

namespace Sys2Proof.Proofs

open Sys2Proof Sys2Proof.Machine

/-- Settles O26, row by row: the two references of the slot, the other slots' states, and the slot set to its cleared
values. -/
theorem planOpenTable : Obligations.PlanOpenTable := by
  unfold Obligations.PlanOpenTable
  refine ⟨?outside, ?table⟩
  case outside =>
    intro tag b s htakes hb
    have hnone : index? 4 b.toNat = none := index?_eq_none (by omega)
    exact ⟨_, planOpen_of_takes htakes (withSlot_of_none hnone _ _ _), replied_of_unchanged _ _ _ s⟩
  case table =>
    intro tag p s htakes
    have exec_of {a : Answer} {u : State} (hjudge : judgePlanOpen p (takeRequest s) = (a, u)) :
        exec (.planOpen tag [number p]) s = .next (finish (reply 0x88 tag a u)) :=
      planOpen_of_takes htakes ((withSlot_number _ _ _ _).trans hjudge)
    have hjudge := judgePlanOpen_eq p (takeRequest s)
    by_cases hused : s.plans.inForce = some p ∨ s.plans.pendingPlan = some p
    · refine ⟨_, exec_of (hjudge.trans (if_pos hused)), ?_⟩
      rw [if_pos hused]
      exact replied_of_unchanged _ _ _ s
    by_cases hother : ∃ q, q ≠ p ∧ (planAt s q).state = .editing
    · refine ⟨_, exec_of (hjudge.trans ((if_neg hused).trans (if_pos hother))), ?_⟩
      rw [if_neg hused, if_pos hother]
      exact replied_of_unchanged _ _ _ s
    · refine ⟨_, exec_of (hjudge.trans ((if_neg hused).trans (if_neg hother))), ?_⟩
      rw [if_neg hused, if_neg hother]
      exact replied_of_plans _ _ _ s _

end Sys2Proof.Proofs
end

section
/-! PROOF. The selection evaluation (R64, R71, R72): the selected slot, the search of the schedule, the activation of
its choice, and `Obligations.SelectionEvaluation` from them. -/

namespace Sys2Proof

variable {n : Nat} {β : Type}

/-- A search in number order ends at the least index at which it succeeds. -/
theorem allFin_findSome?_eq_some_iff {f : Fin n → Option β} {y : β} :
    (allFin n).findSome? f = some y ↔ ∃ a, f a = some y ∧ ∀ b, b < a → f b = none := by
  refine ⟨fun h => ?_, fun ⟨a, ha, hlt⟩ => allFin_findSome?_eq_some ha hlt⟩
  obtain ⟨i, -, hi⟩ := List.exists_of_findSome?_eq_some h
  obtain ⟨a, hsome, hleast⟩ := exists_minimal_of_wellFoundedLT (fun a => f a ≠ none) ⟨i, by simp [hi]⟩
  obtain ⟨z, hz⟩ := Option.ne_none_iff_exists'.mp hsome
  have hlt (b : Fin n) (hb : b < a) : f b = none := by
    by_contra hne
    exact absurd (hleast hne hb.le) (not_le.mpr hb)
  rw [allFin_findSome?_eq_some hz hlt] at h
  exact ⟨a, hz.trans h, hlt⟩

theorem allFin_find?_eq_some_iff {p : Fin n → Bool} {a : Fin n} :
    (allFin n).find? p = some a ↔ p a = true ∧ ∀ b, b < a → ¬p b = true := by
  rw [List.find?_eq_findSome?_guard, allFin_findSome?_eq_some_iff]
  simp [Option.guard_eq_some_iff]

end Sys2Proof

namespace Sys2Proof.Machine

variable {s t u : State}

/-! ### The selected slot (R64) -/

@[simp] theorem validSlot_iff (p : Slot) : validSlot s p = true ↔ (planAt s p).state = .valid := decide_eq_true_iff

/-- R64: the override, where it is VALID. -/
theorem selected_of_override {p : Slot} (h : s.plans.override = some p) (hp : (planAt s p).state = .valid) :
    selected s = some p := by
  simp [selected, h, Option.filter, hp]

/-- R64: with no VALID override, the slot of the schedule's choice, where it is VALID. -/
theorem selected_of_choice {e : SchedIx} {p : Slot}
    (ho : ∀ q, s.plans.override = some q → (planAt s q).state ≠ .valid) (h : choiceWithSlot s = some (e, p))
    (hp : (planAt s p).state = .valid) : selected s = some p := by
  have hnone : s.plans.override.filter (validSlot s) = none :=
    Option.filter_eq_none_iff.mpr fun q hq => by simpa using ho q hq
  rw [selected, hnone]
  simp [h, Option.filter, hp]

/-- R64: with neither VALID, the lowest-numbered VALID slot. -/
theorem selected_lowest (ho : ∀ q, s.plans.override = some q → (planAt s q).state ≠ .valid)
    (hc : ∀ e q, choiceWithSlot s = some (e, q) → (planAt s q).state ≠ .valid) :
    selected s = (allFin 4).find? (validSlot s) := by
  have hnone : s.plans.override.filter (validSlot s) = none :=
    Option.filter_eq_none_iff.mpr fun q hq => by simpa using ho q hq
  have hnone' : ((choiceWithSlot s).map (·.2)).filter (validSlot s) = none := by
    refine Option.filter_eq_none_iff.mpr fun q hq => ?_
    obtain ⟨⟨e, q⟩, he, rfl⟩ := Option.map_eq_some_iff.mp hq
    simpa using hc e q he
  rw [selected, hnone, hnone']

/-! ### The schedule's choice (R71) -/

/-- R71: among the entries of one day, `e` is chosen before `f`: it starts later, or at the same minute with no higher
number. -/
def StartsAfter (s : State) (e f : SchedIx) : Prop :=
  (s.plans.schedule.get f).startMinute < (s.plans.schedule.get e).startMinute ∨
  ((s.plans.schedule.get f).startMinute = (s.plans.schedule.get e).startMinute ∧ e ≤ f)

theorem StartsAfter.antisymm {e f : SchedIx} (h : StartsAfter s e f) (h' : StartsAfter s f e) : e = f := by
  simp only [StartsAfter, Fin.le_def] at h h'
  exact Fin.ext (by omega)

theorem latest_eq_none_iff {l : List SchedIx} : latest s l = none ↔ l = [] := by
  cases l with
  | nil => simp [latest]
  | cons a l =>
    unfold latest
    split
    · simp
    · split <;> simp

theorem latest_startsAfter {l : List SchedIx} (hl : l.Pairwise (· < ·)) {e : SchedIx} (h : latest s l = some e) :
    e ∈ l ∧ ∀ f ∈ l, StartsAfter s e f := by
  induction l generalizing e with
  | nil => simp [latest] at h
  | cons a l ih =>
    obtain ⟨ha, hl⟩ := List.pairwise_cons.mp hl
    unfold latest at h
    split at h
    next hnone =>
      obtain rfl := latest_eq_none_iff.mp hnone
      obtain rfl := Option.some.inj h
      simp [StartsAfter]
    next f hf =>
      obtain ⟨hmem, hbest⟩ := ih hl hf
      split at h
      next hle =>
        obtain rfl := Option.some.inj h
        refine ⟨List.mem_cons_self, List.forall_mem_cons.mpr ⟨.inr ⟨rfl, le_rfl⟩, fun g hg => ?_⟩⟩
        have hfg := hbest g hg
        have hag := ha g hg
        simp only [StartsAfter, Fin.le_def, Fin.lt_def] at *
        omega
      next hlt =>
        obtain rfl := Option.some.inj h
        exact ⟨List.mem_cons_of_mem _ hmem, List.forall_mem_cons.mpr ⟨.inl (not_le.mp hlt), hbest⟩⟩

/-- R71: the entry with the latest start, of equals the lowest number. -/
theorem latest_eq_some_iff {l : List SchedIx} (hl : l.Pairwise (· < ·)) {e : SchedIx} :
    latest s l = some e ↔ e ∈ l ∧ ∀ f ∈ l, StartsAfter s e f := by
  refine ⟨latest_startsAfter hl, fun ⟨hmem, hbest⟩ => ?_⟩
  cases h : latest s l with
  | none => simp [latest_eq_none_iff.mp h] at hmem
  | some f =>
    obtain ⟨hmem', hbest'⟩ := latest_startsAfter hl h
    rw [(hbest f hmem').antisymm (hbest' e hmem)]

/-- R71: the entry offers a start `n` days before the present one, today one not after now. -/
def offersBack (s : State) (x : Tod) (n : Nat) (e : SchedIx) : Bool :=
  qualifies s (daysBefore x.day n) e &&
    (n ≠ 0 || (s.plans.schedule.get e).startMinute ≤ 60 * x.hours + x.minutes)

theorem offersBack_today (x : Tod) : offersBack s x 0 = fun e =>
    qualifies s x.day e && (s.plans.schedule.get e).startMinute ≤ 60 * x.hours + x.minutes := by
  have today : daysBefore x.day 0 = x.day := by ext; simp [daysBefore]
  funext e
  simp [offersBack, today]

theorem offersBack_earlier (x : Tod) {n : Nat} (hn : n ≠ 0) :
    offersBack s x n = qualifies s (daysBefore x.day n) := by
  funext e
  simp [offersBack, hn]

/-- R71: today, the six days before, and today's day last week are one search by days back. -/
theorem scheduleChoice_of_clock {x : Tod} (h : s.plans.clock = some x) : scheduleChoice s =
    (allFin 8).findSome? fun n => latest s ((allFin 16).filter (offersBack s x n.val)) := by
  have week : allFin 8 = 0 :: [1, 2, 3, 4, 5, 6, 7] := rfl
  simp only [scheduleChoice, h, Option.bind_some, week, List.findSome?_cons (a := (0 : Fin 8)), Fin.val_zero,
    offersBack_today]
  split
  next e he => rw [he]
  next he =>
    rw [he]
    simp [List.findSome?_cons, choiceOn, offersBack_earlier]

theorem scheduleChoice_eq_some_iff {x : Tod} (h : s.plans.clock = some x) {e : SchedIx} :
    scheduleChoice s = some e ↔ ∃ n : Fin 8, offersBack s x n e = true ∧ ∀ m f, offersBack s x m.val f = true →
      n < m ∨ (n = m ∧ StartsAfter s e f) := by
  have sorted (n : Nat) : ((allFin 16).filter (offersBack s x n)).Pairwise (· < ·) := (allFin_sorted 16).filter _
  rw [scheduleChoice_of_clock h, allFin_findSome?_eq_some_iff]
  simp only [latest_eq_some_iff (sorted _), latest_eq_none_iff, List.filter_eq_nil_iff, List.mem_filter, mem_allFin,
    true_and, forall_const]
  constructor
  · rintro ⟨n, ⟨hn, hbest⟩, hnone⟩
    refine ⟨n, hn, fun m f hf => ?_⟩
    rcases lt_trichotomy n m with hlt | rfl | hlt
    · exact .inl hlt
    · exact .inr ⟨rfl, hbest f hf⟩
    · exact absurd hf (hnone m hlt f)
  · rintro ⟨n, hn, hbest⟩
    refine ⟨n, ⟨hn, fun f hf => ?_⟩, fun m hm f hf => ?_⟩
    · exact (hbest n f hf).elim (fun h => absurd h (lt_irrefl n)) And.right
    · exact (hbest m f hf).elim (fun h => absurd h hm.asymm) fun h => absurd h.1 hm.ne'

/-- R71: the day `n` days before `k` is the day that lies `n` days before it, for `n` up to 7. -/
theorem daysBefore_eq_iff {d k : Fin 7} {n : Nat} (hn : n ≤ 7) : d = daysBefore k n ↔ (d.val + n) % 7 = k.val := by
  simp only [Fin.ext_iff, daysBefore]
  omega

theorem offersBack_iff {x : Tod} {n : Nat} (hn : n ≤ 7) {e : SchedIx} : offersBack s x n e = true ↔
    (s.plans.schedule.get e).used = true ∧
    (∃ d : Fin 7, (d.val + n) % 7 = x.day.val ∧ (s.plans.schedule.get e).days.get d = true) ∧
    (n = 0 → (s.plans.schedule.get e).startMinute ≤ 60 * x.hours + x.minutes) := by
  simp only [offersBack, qualifies, Bool.and_eq_true, Bool.or_eq_true, decide_eq_true_eq, ← daysBefore_eq_iff hn,
    exists_eq_left, and_assoc, Decidable.imp_iff_not_or, ne_eq]

/-! ### The activation of a choice (R72) -/

theorem choicePostings_of_unavailable {e : SchedIx} {p : Slot} {last : Option (SchedIx × Slot)}
    {slots : Tab PlanSlot 4} (hne : some (e, p) ≠ last) (hp : (slots.get p).state ≠ .valid) :
    choicePostings (some (e, p)) last slots = [(.planUnavailable, false, .sched e, [number p])] := if_pos ⟨hne, hp⟩

theorem choicePostings_of_valid {e : SchedIx} {p : Slot} {last : Option (SchedIx × Slot)} {slots : Tab PlanSlot 4}
    (hp : (slots.get p).state = .valid) : choicePostings (some (e, p)) last slots = [] :=
  if_neg fun h => h.2 hp

@[simp] theorem choicePostings_none (last : Option (SchedIx × Slot)) (slots : Tab PlanSlot 4) :
    choicePostings none last slots = [] := rfl

@[simp] theorem choicePostings_self (choice : Option (SchedIx × Slot)) (slots : Tab PlanSlot 4) :
    choicePostings choice choice slots = [] := by
  cases choice with
  | none => rfl
  | some c => exact if_neg fun h => h.1 rfl

end Sys2Proof.Machine

namespace Sys2Proof.Proofs

open Sys2Proof Sys2Proof.Machine

/-- Settles O29: the three rules of the selection, `evaluate_eq` for what an evaluation changes, and the search of the
schedule as one search by days back. -/
theorem selectionEvaluation : Obligations.SelectionEvaluation := by
  unfold Obligations.SelectionEvaluation
  intro s valid chosen
  have choice_slot {e : SchedIx} {p : Slot} (h : choiceWithSlot s = some (e, p)) : chosen = some p := by
    obtain ⟨f, hf, hslot⟩ := Option.map_eq_some_iff.mp h
    obtain ⟨rfl, hp⟩ := Prod.mk.inj hslot
    simp [chosen, hf, hp]
  refine ⟨?override, ?choice, ?lowest, ?pending, ?inForce, ?seq, ?flt, ?unset, ?search, ?_⟩
  case override => exact fun p ho hp => selected_of_override ho hp
  case choice =>
    intro ho p hchosen hp
    obtain ⟨e, he, rfl⟩ := Option.map_eq_some_iff.mp hchosen
    exact selected_of_choice ho (by rw [choiceWithSlot, he, Option.map_some]) hp
  case lowest =>
    intro ho hc p
    rw [selected_lowest ho fun e q h => hc q (choice_slot h), allFin_find?_eq_some_iff]
    simp only [validSlot_iff, valid]
  case pending => rw [evaluate_plans]
  case inForce => rw [evaluate_plans]
  case seq => rw [evaluate_eq]
  case flt => rw [evaluate_eq]
  case unset => exact fun h => by rw [scheduleChoice, h, Option.bind_none]
  case search =>
    intro x hx start offers e
    have offers_iff (n : Nat) (f : SchedIx) : offers n f ↔ ∃ m : Fin 8, m.val = n ∧ offersBack s x m f = true := by
      constructor
      · rintro ⟨hn, hoffer⟩
        exact ⟨⟨n, by omega⟩, rfl, (offersBack_iff hn).mpr hoffer⟩
      · rintro ⟨m, rfl, hoffer⟩
        exact ⟨by omega, (offersBack_iff (by omega)).mp hoffer⟩
    rw [scheduleChoice_eq_some_iff hx]
    simp only [offers_iff]
    constructor
    · rintro ⟨n, hn, hbest⟩
      refine ⟨n, ⟨n, rfl, hn⟩, ?_⟩
      rintro _ f ⟨m, rfl, hf⟩
      exact (hbest m f hf).imp id (And.imp_left (congrArg Fin.val))
    · rintro ⟨_, ⟨n, rfl, hn⟩, hbest⟩
      exact ⟨n, hn, fun m f hf => (hbest m f ⟨m, rfl, hf⟩).imp id (And.imp_left Fin.ext)⟩
  intro choice
  have hchoice : choice = choiceWithSlot s := rfl
  have hposted : (evaluate s).lnk =
      s.lnk.posted s.uptime (choicePostings choice s.plans.lastChoice s.plans.slot) := by rw [hchoice, evaluate_eq]
  refine ⟨by rw [hchoice, evaluate_plans], fun e p he hne hp => ?_, fun h => ?_⟩
  · rw [hposted, he, choicePostings_of_unavailable (he ▸ hne) hp, post_eq]
  · have hnil : choicePostings choice s.plans.lastChoice s.plans.slot = [] := by
      rcases h with hlast | hnone | ⟨e, p, he, hp⟩
      · rw [hlast, choicePostings_self]
      · rw [hnone, choicePostings_none]
      · rw [he, choicePostings_of_valid hp]
    rw [hposted, hnil, Lnk.posted_nil]

end Sys2Proof.Proofs
end

section
/-! PROOF. The close of a plan (R60, R61): the clamps, what each of the six checks finds, the request, and
`Obligations.PlanCloseValidates` from them. -/

namespace Sys2Proof.Machine

variable {s t u : State}

/-! ### The entries of the sequence (R55) and the clamps -/

@[simp] theorem PlanSlot.mem_used {x : PlanSlot} {e : Entry} : e ∈ x.used ↔ e.val < x.length := by
  simp [PlanSlot.used]

theorem PlanSlot.used_sorted (x : PlanSlot) : x.used.Pairwise (· < ·) := (allFin_sorted 12).filter _

theorem PlanSlot.used_nodup (x : PlanSlot) : x.used.Nodup := x.used_sorted.imp ne_of_lt

/-- R60: the clamps reach the entries of the sequence alone. -/
theorem PlanSlot.clamp_entries (x : PlanSlot) (e : Entry) : x.clamp.entries.get e =
    if e.val < x.length then (x.entries.get e).clamp else x.entries.get e := by
  simp only [PlanSlot.clamp, Tab.get_foldl_modify _ _ x.used_nodup, PlanSlot.mem_used]

theorem PlanSlot.clamp_ne_iff (x : PlanSlot) : x.clamp ≠ x ↔ x.clamp.entries ≠ x.entries := by
  refine not_congr ⟨congrArg PlanSlot.entries, fun h => ?_⟩
  cases x
  simp only [PlanSlot.clamp, PlanSlot.mk.injEq, true_and] at h ⊢
  exact h

/-! ### Searches among the entries -/

theorem PlanSlot.used_find?_eq_none {x : PlanSlot} {p : Entry → Bool} :
    x.used.find? p = none ↔ ∀ e : Entry, e.val < x.length → ¬p e = true := by
  simp [List.find?_eq_none]

theorem PlanSlot.used_find?_eq_some {x : PlanSlot} {p : Entry → Bool} {e : Entry} (hlt : e.val < x.length)
    (he : p e = true) (hfirst : ∀ d, d < e → ¬p d = true) : x.used.find? p = some e := by
  rw [List.find?_eq_findSome?_guard]
  refine findSome?_of_least x.used_sorted (a := e) (by simpa) (by simp [he]) fun d hd => ?_
  simp [hfirst d hd]

/-! ### Check 4: a stage that follows itself -/

/-- R60, check 4: the stage of the entry equals that of the entry after it, the first after the last. -/
def Repeats (x : PlanSlot) (e : Entry) : Prop :=
  e.val < x.length ∧ 2 ≤ x.length ∧ ∃ d : Entry, d.val = (e.val + 1) % x.length ∧ x.stageAt d = x.stageAt e

theorem PlanSlot.last?_eq {x : PlanSlot} {e : Entry} (h : x.length = e.val + 1) : x.last? = some e := by
  have last : ∀ e : Entry, ((allFin 12).filter fun d => d.val < e.val + 1).getLast? = some e := by decide
  rw [PlanSlot.last?, PlanSlot.used, h, last]

/-- Before the last entry the one after it is its successor. -/
theorem repeats_iff_of_lt {x : PlanSlot} (hn : x.length ≤ 12) {e : Entry} (he : e.val + 1 < x.length) :
    Repeats x e ↔ x.stageAt e = x.stageAt (entryAfter x.length e) := by
  have hafter : entryAfter x.length e = ⟨e.val + 1, by omega⟩ := dif_pos ⟨he, by omega⟩
  have hmod : (e.val + 1) % x.length = e.val + 1 := Nat.mod_eq_of_lt he
  rw [hafter, Repeats, hmod]
  constructor
  · rintro ⟨-, -, d, hd, hstage⟩
    rw [← hstage]
    exact congrArg x.stageAt (Fin.ext hd)
  · exact fun h => ⟨by omega, by omega, ⟨e.val + 1, by omega⟩, rfl, h.symm⟩

/-- After the last entry the one after it is the first. -/
theorem repeats_iff_of_last {x : PlanSlot} {e : Entry} (he : x.length = e.val + 1) :
    Repeats x e ↔ 2 ≤ x.length ∧ x.stageAt e = x.stageAt 0 := by
  have hmod : (e.val + 1) % x.length = 0 := by rw [he, Nat.mod_self]
  rw [Repeats, hmod]
  constructor
  · rintro ⟨-, htwo, d, hd, hstage⟩
    obtain rfl : d = 0 := Fin.ext hd
    exact ⟨htwo, hstage.symm⟩
  · exact fun ⟨htwo, hstage⟩ => ⟨by omega, htwo, 0, rfl, hstage.symm⟩

/-- The search of check 4 up to the entry before the last. -/
theorem repeated_search_iff {x : PlanSlot} (hn : x.length ≤ 12) {e : Entry} :
    (e.val + 1 < x.length && x.stageAt e = x.stageAt (entryAfter x.length e)) = true ↔
      e.val + 1 < x.length ∧ Repeats x e := by
  rw [Bool.and_eq_true, decide_eq_true_eq, decide_eq_true_eq]
  exact and_congr_right fun he => (repeats_iff_of_lt hn he).symm

theorem PlanSlot.repeated_eq_some {x : PlanSlot} (hn : x.length ≤ 12) {e : Entry} (he : Repeats x e)
    (hfirst : ∀ d, d < e → ¬Repeats x d) : x.repeated = some e := by
  have hlt : e.val < x.length := he.1
  unfold PlanSlot.repeated
  by_cases hlast : x.length = e.val + 1
  · have hnone : (x.used.find? fun e => e.val + 1 < x.length && x.stageAt e = x.stageAt (entryAfter x.length e)) =
        none := by
      refine PlanSlot.used_find?_eq_none.mpr fun d _ hd => ?_
      obtain ⟨hd, hrep⟩ := (repeated_search_iff hn).mp hd
      exact hfirst d (Fin.lt_def.mpr (by omega)) hrep
    obtain ⟨htwo, hstage⟩ := (repeats_iff_of_last hlast).mp he
    simp only [hnone, if_pos htwo, PlanSlot.last?_eq hlast]
    simp [Option.filter, hstage]
  · have hsome : (x.used.find? fun e => e.val + 1 < x.length && x.stageAt e = x.stageAt (entryAfter x.length e)) =
        some e :=
      PlanSlot.used_find?_eq_some hlt ((repeated_search_iff hn).mpr ⟨by omega, he⟩) fun d hd h =>
        hfirst d hd ((repeated_search_iff hn).mp h).2
    simp only [hsome]

theorem PlanSlot.repeated_eq_none {x : PlanSlot} (hn : x.length ≤ 12) (hpos : x.length ≠ 0)
    (h : ∀ e, ¬Repeats x e) : x.repeated = none := by
  have hnone : (x.used.find? fun e => e.val + 1 < x.length && x.stageAt e = x.stageAt (entryAfter x.length e)) =
      none := PlanSlot.used_find?_eq_none.mpr fun d _ hd => h d ((repeated_search_iff hn).mp hd).2
  have hlast : x.length = (⟨x.length - 1, by omega⟩ : Entry).val + 1 := by simp only; omega
  have hfirst := h ⟨x.length - 1, by omega⟩
  rw [repeats_iff_of_last hlast, not_and] at hfirst
  simp only [PlanSlot.repeated, hnone, PlanSlot.last?_eq hlast]
  split
  next htwo => simp [Option.filter, hfirst htwo]
  next => rfl

/-! ### Checks 5 and 6: against the description -/

/-- R60, check 5: the entry names a stage without a group. -/
def Missing (j : Jds) (x : PlanSlot) (e : Entry) : Prop :=
  e.val < x.length ∧ j.stage.get (x.stageAt e) = Tab.const 16 false

/-- R60, check 6: the entry's minimum green is below the minimum-green floor of a group of its stage. -/
def Short (j : Jds) (x : PlanSlot) (e : Entry) (g : Group) : Prop :=
  e.val < x.length ∧ (j.stage.get (x.stageAt e)).get g = true ∧
  (x.entries.get e).minGreen < (j.group.get g).floor

theorem eq_const_false_iff {n : Nat} (t : Flags n) : t = Tab.const n false ↔ t.none? = true := by
  rw [none?_iff, not_exists]
  refine ⟨fun h i => by rw [h, Tab.get_const]; exact Bool.false_ne_true, fun h => Tab.ext_get fun i => ?_⟩
  rw [Tab.get_const]
  exact Bool.eq_false_iff.mpr (h i)

section accepted

variable (hacc : s.jds.desc = .accepted)
include hacc

theorem stageSet_of_accepted (k : Stage) : s.jds.stageSet k = s.jds.stage.get k := by
  simp [Jds.stageSet, Jds.accepted, hacc]

theorem not_defined_iff (k : Stage) : (!s.jds.defined k) = true ↔ s.jds.stage.get k = Tab.const 16 false := by
  rw [Jds.defined, stageSet_of_accepted hacc, Bool.not_not, eq_const_false_iff]

theorem floorAbove_of_accepted (k : Stage) (n : Nat) : floorAbove s k n =
    (allFin 16).find? fun g => (s.jds.stage.get k).get g && n < (s.jds.group.get g).floor := by
  rw [floorAbove, stageSet_of_accepted hacc, members_find?]

theorem descriptionError_missing {x : PlanSlot} {e : Entry} (he : Missing s.jds x e)
    (hfirst : ∀ d, d < e → ¬Missing s.jds x d) : descriptionError s x = some ⟨5, some e, none⟩ := by
  obtain ⟨hlt, hempty⟩ := he
  have hsome : (x.used.find? fun e => !s.jds.defined (x.stageAt e)) = some e := by
    refine PlanSlot.used_find?_eq_some hlt ((not_defined_iff hacc _).mpr hempty) fun d hd h => ?_
    exact hfirst d hd ⟨hlt.trans' hd, (not_defined_iff hacc _).mp h⟩
  simp only [descriptionError, hsome]

theorem descriptionError_of_defined {x : PlanSlot} (h : ∀ e, ¬Missing s.jds x e) : descriptionError s x =
    x.used.findSome? fun e => (floorAbove s (x.stageAt e) (x.entries.get e).minGreen).map fun g =>
      ⟨6, some e, some g⟩ := by
  have hnone : (x.used.find? fun e => !s.jds.defined (x.stageAt e)) = none :=
    PlanSlot.used_find?_eq_none.mpr fun e hlt he => h e ⟨hlt, (not_defined_iff hacc _).mp he⟩
  simp only [descriptionError, hnone]

theorem floorAbove_eq_none {x : PlanSlot} {e : Entry} (h : ∀ g, ¬Short s.jds x e g) (hlt : e.val < x.length) :
    floorAbove s (x.stageAt e) (x.entries.get e).minGreen = none := by
  rw [floorAbove_of_accepted hacc, allFin_find?_eq_none]
  intro g hg
  obtain ⟨hmem, hfloor⟩ := (Bool.and_eq_true _ _).mp hg
  exact h g ⟨hlt, hmem, of_decide_eq_true hfloor⟩

theorem descriptionError_short {x : PlanSlot} {e : Entry} {g : Group} (hdefined : ∀ e, ¬Missing s.jds x e)
    (hshort : Short s.jds x e g) (hfirst : ∀ d h, Short s.jds x d h → e < d ∨ (e = d ∧ g ≤ h)) :
    descriptionError s x = some ⟨6, some e, some g⟩ := by
  obtain ⟨hlt, hmem, hfloor⟩ := hshort
  rw [descriptionError_of_defined hacc hdefined]
  refine findSome?_of_least x.used_sorted (a := e) (by simpa) ?_ fun d hd => ?_
  · rw [floorAbove_of_accepted hacc, allFin_find?_eq_some (a := g) (by simp [hmem, hfloor]), Option.map_some]
    intro h hh
    obtain ⟨hmem', hfloor'⟩ := (Bool.and_eq_true _ _).mp hh
    exact (hfirst e h ⟨hlt, hmem', of_decide_eq_true hfloor'⟩).elim (fun h => absurd h (lt_irrefl e)) And.right
  · have hnone (h : Group) : ¬Short s.jds x d h := fun hs =>
      (hfirst d h hs).elim hd.asymm fun heq => hd.ne' heq.1
    rw [floorAbove_eq_none hacc hnone (hlt.trans' hd), Option.map_none]

theorem descriptionError_none {x : PlanSlot} (hdefined : ∀ e, ¬Missing s.jds x e)
    (hfloors : ∀ e g, ¬Short s.jds x e g) : descriptionError s x = none := by
  rw [descriptionError_of_defined hacc hdefined, List.findSome?_eq_none_iff]
  intro e he
  rw [floorAbove_eq_none hacc (hfloors e) (PlanSlot.mem_used.mp he), Option.map_none]

end accepted

/-! ### The slot after the checks (R61) -/

/-- R60: the three checks of the slot alone, then check 4, then those against the description. -/
theorem closeError_eq (s : State) (x : PlanSlot) : closeError s x =
    if s.jds.desc ≠ .accepted then some ⟨1, none, none⟩
    else if x.id = 0 then some ⟨2, none, none⟩
    else if x.length = 0 then some ⟨3, none, none⟩
    else (x.repeated.map fun e => ⟨4, some e, none⟩).or (descriptionError s x) := by
  simp only [closeError, Jds.accepted, Bool.not_eq_true', decide_eq_false_iff_not, ne_eq]
  cases x.repeated <;> rfl

section filled

variable {x : PlanSlot} (hacc : s.jds.desc = .accepted) (hid : x.id ≠ 0) (hpos : x.length ≠ 0)
include hacc hid hpos

theorem closeError_filled :
    closeError s x = (x.repeated.map fun e => ⟨4, some e, none⟩).or (descriptionError s x) := by
  rw [closeError_eq, if_neg (not_not.mpr hacc), if_neg hid, if_neg hpos]

theorem closeError_repeats (hn : x.length ≤ 12) {e : Entry} (he : Repeats x e) (hfirst : ∀ d, d < e → ¬Repeats x d) :
    closeError s x = some ⟨4, some e, none⟩ := by
  rw [closeError_filled hacc hid hpos, PlanSlot.repeated_eq_some hn he hfirst]
  rfl

theorem closeError_of_no_repeat (hn : x.length ≤ 12) (h : ∀ e, ¬Repeats x e) :
    closeError s x = descriptionError s x := by
  rw [closeError_filled hacc hid hpos, PlanSlot.repeated_eq_none hn hpos h]
  rfl

end filled

theorem closedSlot_eq (s : State) (x : PlanSlot) : closedSlot s x =
    { x with state := if closeError s x = none then .valid else .invalid, error := closeError s x } := by
  unfold closedSlot
  split <;> simp_all

/-! ### The request -/

theorem planClose_of_takes {tag b : Byte} {a : Answer} (h : takes s 0x0A tag [b] = true)
    (hjudge : withSlot [b] (fun p => whileEditing p (judgePlanClose p)) (takeRequest s) = (a, u)) :
    exec (.planClose tag [b]) s = .next (finish (reply 0x8A tag a u)) := serve_of_judge h rfl hjudge

/-- R60, R61: the slot as a close leaves it. -/
def closedAt (s : State) (p : Slot) : PlanSlot := closedSlot s (planAt s p).clamp

/-- R60, R61, R64: the plans that a close hands to the selection evaluation. -/
def closedPlans (s : State) (p : Slot) : Plans :=
  { s.plans with slot := s.plans.slot.set p (closedAt s p) }

theorem planClose_of_editing {tag : Byte} {p : Slot} (h : takes s 0x0A tag [number p] = true)
    (hedit : (planAt s p).state = .editing) : exec (.planClose tag [number p]) s =
      .next (evaluatedReply 0x8A tag
        (.done ((closedAt s p).entries ≠ (planAt s p).entries)
          ((closedAt s p).state.code :: closeErrorBytes (closedAt s p).error)) s (closedPlans s p)) := by
  have hclamped : (decide ((planAt s p).clamp ≠ planAt s p)) =
      decide ((closedAt s p).entries ≠ (planAt s p).entries) := by
    rw [decide_eq_decide, PlanSlot.clamp_ne_iff, closedAt, closedSlot_eq]
  refine planClose_of_takes h ((withSlot_number _ _ _ _).trans ?_)
  rw [← hclamped]
  exact if_pos hedit

end Sys2Proof.Machine

namespace Sys2Proof.Proofs

open Sys2Proof Sys2Proof.Machine

/-- Settles O28: the clamps entry by entry, the first failing check by the searches it stands for, and the evaluation
that follows, which leaves the slots as they are. -/
theorem planCloseValidates : Obligations.PlanCloseValidates := by
  unfold Obligations.PlanCloseValidates
  refine ⟨?outside, ?notOpen, ?closed⟩
  case outside =>
    intro tag b s htakes hb
    exact ⟨_, planClose_of_takes htakes (withSlot_of_none (index?_of_ne_number hb) _ _ _),
      replied_of_unchanged _ _ _ s⟩
  case notOpen =>
    intro tag p s htakes hstate
    exact ⟨_, planClose_of_takes htakes ((withSlot_number _ _ _ _).trans (if_neg hstate)),
      replied_of_unchanged _ _ _ s⟩
  case closed =>
    intro tag p s htakes hedit
    have h := evaluatedReply_reevaluated 0x8A tag
      (.done ((closedAt s p).entries ≠ (planAt s p).entries)
        ((closedAt s p).state.code :: closeErrorBytes (closedAt s p).error)) s (closedPlans s p)
    have hx : closedAt s p = { (planAt s p).clamp with
        state := if closeError s (planAt s p).clamp = none then .valid else .invalid
        error := closeError s (planAt s p).clamp } := closedSlot_eq s _
    refine ⟨_, closedAt s p, planClose_of_editing htakes hedit, ?slot, ?entries, by rw [hx]; rfl, by rw [hx]; rfl,
      by rw [hx]; rfl, ?error, by rw [hx], evaluatedReply_answered _ _ _ _ _, ?others, h.inForce, h.pendingPlan, h.jds,
      h.seq, h.flt⟩
    case slot => rw [planAt, h.slot, closedPlans, Tab.get_set_same]
    case others => exact fun q hq => by rw [planAt, h.slot, closedPlans, Tab.get_set_ne _ _ hq.symm, planAt]
    case entries => exact fun e => by rw [hx]; exact PlanSlot.clamp_entries _ e
    case error =>
      intro n stage repeats missing short
      have herror : (closedAt s p).error = closeError s (planAt s p).clamp := by rw [hx]
      have hrepeats (e : Entry) : repeats e ↔ Repeats (planAt s p).clamp e := by
        simp only [repeats, stage, n, hx]; rfl
      have hmissing (e : Entry) : missing e ↔ Missing s.jds (planAt s p).clamp e := by
        simp only [missing, stage, n, hx]; rfl
      have hshort (e : Entry) (g : Group) : short e g ↔ Short s.jds (planAt s p).clamp e g := by
        simp only [short, stage, n, hx]; rfl
      simp only [herror, hrepeats, hmissing, hshort]
      have hchain := closeError_eq s (planAt s p).clamp
      split
      next hdesc => rw [hchain, if_pos hdesc]
      next hdesc =>
        rw [if_neg hdesc] at hchain
        split
        next hid => exact hchain.trans (if_pos hid)
        next hid =>
          split
          next hzero => exact hchain.trans ((if_neg hid).trans (if_pos hzero))
          next hpos =>
            intro hn
            have hacc : s.jds.desc = .accepted := not_not.mp hdesc
            have hrest := closeError_of_no_repeat (x := (planAt s p).clamp) hacc hid hpos hn
            refine ⟨fun e => closeError_repeats (x := (planAt s p).clamp) hacc hid hpos hn, fun hno e he hfirst => ?_,
              fun hno hdefined e g hg hfirst => ?_, fun hno hdefined hfloors => ?_⟩
            · rw [hrest hno, descriptionError_missing hacc he hfirst]
            · rw [hrest hno, descriptionError_short hacc hdefined hg hfirst]
            · rw [hrest hno, descriptionError_none hacc hdefined hfloors]

end Sys2Proof.Proofs
end

section
/-! PROOF. PLAN-SELECT, SCHEDULE-WRITE, CLOCK-SET and the clock's second (R65, R66, R69, R70), and
`Obligations.SelectScheduleAndClock` from them. -/

namespace Sys2Proof.Machine

variable {s t u : State}

/-! ### Flags and sets in bytes (R200) -/

@[simp] theorem openFlag_flagByte (b : Bool) : openFlag (flagByte b).toNat = b := by cases b <;> rfl

theorem testBit_packBits (l : List Bool) (i : Nat) : (packBits l).testBit i = l.getD i false := by
  induction l generalizing i with
  | nil => simp [packBits]
  | cons b l ih =>
    have hcons : packBits (b :: l) = 2 * packBits l + b.toNat := by cases b <;> rfl
    rw [hcons]
    cases i with
    | zero => cases b <;> simp [Nat.testBit_zero]
    | succ i =>
      have hhalf : (2 * packBits l + b.toNat) / 2 = packBits l := by have := b.toNat_le; omega
      rw [Nat.testBit_succ, hhalf, ih]
      rfl

theorem packBits_lt (l : List Bool) : packBits l < 2 ^ l.length := by
  induction l with
  | nil => simp [packBits]
  | cons b l ih =>
    have hcons : packBits (b :: l) = 2 * packBits l + b.toNat := by cases b <;> rfl
    have := b.toNat_le
    rw [hcons, List.length_cons, Nat.pow_succ]
    omega

/-- A set of up to eight members comes back from its byte. -/
theorem flagsOf_packByte {n : Nat} (hn : n ≤ 8) (t : Flags n) : flagsOf n (packByte t.list).toNat = t := by
  have hlt : packBits t.list < 256 :=
    (packBits_lt t.list).trans_le (by rw [t.size]; exact Nat.pow_le_pow_right (by decide) hn)
  refine Tab.ext_get fun i => ?_
  have hi : i.val < t.list.length := by rw [t.size]; exact i.isLt
  rw [flagsOf, Tab.get_ofFn, packByte, b8_toNat hlt, testBit_packBits, List.getD_eq_getElem _ _ hi]
  rfl

theorem inRange_iff {n lo hi : Nat} : inRange n lo hi = true ↔ lo ≤ n ∧ n ≤ hi := by simp [inRange]

theorem index?_eq_some {n k : Nat} (h : 1 ≤ k ∧ k ≤ n) : ∃ i, index? n k = some i := ⟨_, dif_pos h⟩

/-! ### PLAN-SELECT (R66) -/

theorem planSelect_of_takes {tag b : Byte} {a : Answer} (h : takes s 0x0C tag [b] = true)
    (hjudge : judgePlanSelect [b] (takeRequest s) = (a, u)) :
    exec (.planSelect tag [b]) s = .next (finish (reply 0x8C tag a u)) := serve_of_judge h rfl hjudge

theorem judgePlanSelect_number? (o : Option Slot) (s : State) : judgePlanSelect [number? o] s =
    (.ok, evaluate (s.onPlans fun l => { l with override := o })) := by
  have hrange : inRange (number? o).toNat 0 4 = true := by
    rw [inRange_iff]
    cases o with
    | none => decide
    | some p => rw [show number? (some p) = number p from rfl, number_toNat (by decide)]; omega
  rw [judgePlanSelect, byteAt_cons_zero, if_pos hrange, index?_number? (by decide)]

theorem judgePlanSelect_of_gt {b : Byte} (h : 4 < b.toNat) (s : State) : judgePlanSelect [b] s = (.badField 1, s) :=
  if_neg fun hin => absurd (inRange_iff.mp hin).2 (not_le.mpr h)

/-! ### SCHEDULE-WRITE (R70) -/

theorem scheduleWrite_of_takes {tag : Byte} {body : List Byte} {a : Answer} (h : takes s 0x0D tag body = true)
    (hlength : body.length = 6) (hjudge : judgeScheduleWrite body (takeRequest s) = (a, u)) :
    exec (.scheduleWrite tag body) s = .next (finish (reply 0x8D tag a u)) :=
  serve_of_judge h (decide_eq_true hlength) hjudge

theorem judgeScheduleWrite_bytes (e : SchedIx) {x : SchedEntry} (hh : x.hours ≤ 23) (hm : x.minutes ≤ 59)
    (s : State) : judgeScheduleWrite (number e :: x.bytes) s =
      (.ok, evaluate (s.onPlans fun l => { l with schedule := l.schedule.set e x })) := by
  have hhours : (b8 x.hours).toNat = x.hours := b8_toNat (by omega)
  have hminutes : (b8 x.minutes).toNat = x.minutes := b8_toNat (by omega)
  simp [judgeScheduleWrite, SchedEntry.bytes, index?_number, hhours, hminutes, firstBad, inRange, hh, hm,
    flagsOf_packByte]

/-- R70, log 65: the first field out of its range. -/
theorem judgeScheduleWrite_refused {body : List Byte} {item : Nat}
    (h : FirstOut [(1, 1 ≤ byteAt body 0 ∧ byteAt body 0 ≤ 16), (4, byteAt body 3 ≤ 23), (5, byteAt body 4 ≤ 59),
      (6, 1 ≤ byteAt body 5 ∧ byteAt body 5 ≤ 4)] item) (s : State) :
    judgeScheduleWrite body s = (.badField item, s) := by
  rcases h with ⟨h, rfl⟩ | ⟨hindex, h⟩
  · simp only [judgeScheduleWrite, index?_eq_none h]
  obtain ⟨e, he⟩ := index?_eq_some hindex
  rcases h with ⟨h, rfl⟩ | ⟨hhours, ⟨h, rfl⟩ | ⟨hminutes, ⟨h, rfl⟩ | ⟨-, ⟨⟩⟩⟩⟩
  · simp [judgeScheduleWrite, he, firstBad, inRange, h]
  · simp [judgeScheduleWrite, he, firstBad, inRange, hhours, h]
  · simp [judgeScheduleWrite, he, firstBad, inRange, hhours, hminutes, index?_eq_none h]

/-! ### CLOCK-SET and CLOCK_SECOND (R65, R69) -/

theorem clockSet_of_takes {tag : Byte} {body : List Byte} {a : Answer} (h : takes s 0x0F tag body = true)
    (hlength : body.length = 4) (hjudge : judgeClockSet body (takeRequest s) = (a, u)) :
    exec (.clockSet tag body) s = .next (finish (reply 0x8F tag a u)) :=
  serve_of_judge h (decide_eq_true hlength) hjudge

theorem judgeClockSet_bytes {x : Tod} (hh : x.hours ≤ 23) (hm : x.minutes ≤ 59) (hs : x.seconds ≤ 59) (s : State) :
    judgeClockSet [number x.day, b8 x.hours, b8 x.minutes, b8 x.seconds] s =
      (.ok, evaluate (s.onPlans fun l => { l with clock := some x, clockMs := 0 })) := by
  have hhours : (b8 x.hours).toNat = x.hours := b8_toNat (by omega)
  have hminutes : (b8 x.minutes).toNat = x.minutes := b8_toNat (by omega)
  have hseconds : (b8 x.seconds).toNat = x.seconds := b8_toNat (by omega)
  simp [judgeClockSet, index?_number, hhours, hminutes, hseconds, firstBad, inRange, hh, hm, hs]

/-- R69, log 65: the first field out of its range. -/
theorem judgeClockSet_refused {body : List Byte} {item : Nat}
    (h : FirstOut [(1, 1 ≤ byteAt body 0 ∧ byteAt body 0 ≤ 7), (2, byteAt body 1 ≤ 23), (3, byteAt body 2 ≤ 59),
      (4, byteAt body 3 ≤ 59)] item) (s : State) : judgeClockSet body s = (.badField item, s) := by
  rcases h with ⟨h, rfl⟩ | ⟨hindex, h⟩
  · simp only [judgeClockSet, index?_eq_none h]
  obtain ⟨d, hd⟩ := index?_eq_some hindex
  rcases h with ⟨h, rfl⟩ | ⟨hhours, ⟨h, rfl⟩ | ⟨hminutes, ⟨h, rfl⟩ | ⟨-, ⟨⟩⟩⟩⟩
  · simp [judgeClockSet, hd, firstBad, inRange, h]
  · simp [judgeClockSet, hd, firstBad, inRange, hhours, h]
  · simp [judgeClockSet, hd, firstBad, inRange, hhours, hminutes, h]

/-- R69: the seconds of the week, counted on and wrapping after day 7. -/
theorem Tod.next_counts {x : Tod} (hh : x.hours ≤ 23) (hm : x.minutes ≤ 59) (hs : x.seconds ≤ 59) :
    ((x.next.day.val * 24 + x.next.hours) * 60 + x.next.minutes) * 60 + x.next.seconds =
      (((x.day.val * 24 + x.hours) * 60 + x.minutes) * 60 + x.seconds + 1) % 604800 ∧
    x.next.hours ≤ 23 ∧ x.next.minutes ≤ 59 ∧ x.next.seconds ≤ 59 := by
  have hday := x.day.isLt
  unfold Tod.next
  split
  · simp only; omega
  split
  · simp only; omega
  split
  · simp only; omega
  · simp only; omega

theorem clockTick_frame (x : Tod) (s : State) : (clockTick x s).plans.clock = some x.next ∧
    (clockTick x s).plans.clockMs = s.plans.clockMs - 1000 ∧ (clockTick x s).plans.inForce = s.plans.inForce ∧
    (clockTick x s).seq = s.seq ∧ (clockTick x s).jds = s.jds ∧ (clockTick x s).flt = s.flt := by
  unfold clockTick
  split
  · rw [evaluate_eq]
    exact ⟨rfl, rfl, rfl, rfl, rfl, rfl⟩
  · exact ⟨rfl, rfl, rfl, rfl, rfl, rfl⟩

theorem clockTick_within_minute {x : Tod} (h : x.next.seconds ≠ 0) : (finish (clockTick x s)).plans =
    { s.plans with clock := (clockTick x s).plans.clock, clockMs := (clockTick x s).plans.clockMs } := by
  rw [clockTick, if_neg h]
  rfl

/-- R65: a whole minute evaluates the selection. -/
theorem clockTick_whole_minute {x : Tod} (h : x.next.seconds = 0) : (finish (clockTick x s)).plans =
    (evaluate (s.onPlans fun l => { l with clock := some x.next, clockMs := l.clockMs - 1000 })).plans := by
  rw [clockTick, if_pos h]
  rfl

/-- R65, R69: a second that has passed. -/
theorem clockSecond_of_due {x : Tod} (hx : s.plans.clock = some x) (hdue : 1000 ≤ s.plans.clockMs) :
    exec .clockSecond s = .next (finish (clockTick x s)) := by
  show execClockSecond s = _
  simp only [execClockSecond, hx, if_pos hdue]

end Sys2Proof.Machine

namespace Sys2Proof.Proofs

open Sys2Proof Sys2Proof.Machine

/-- Settles O30: each request stores what it names and evaluates the selection, or is refused by its first field out of
range; the clock's second by `Tod.next_counts`. -/
theorem selectScheduleAndClock : Obligations.SelectScheduleAndClock := by
  unfold Obligations.SelectScheduleAndClock
  refine ⟨?select, ?schedule, ?clock, ?selectRefused, ?scheduleRefused, ?clockRefused, ?second⟩
  case select =>
    intro tag o s htakes
    have h := evaluatedReply_reevaluated 0x8C tag .ok s { s.plans with override := o }
    exact ⟨_, planSelect_of_takes htakes (judgePlanSelect_number? o _), evaluatedReply_answered _ _ _ _ _, h.override,
      h.slot, h.inForce, h.schedule, h.clock, h.pendingPlan, h.seq, h.flt⟩
  case schedule =>
    intro tag e x s body htakes hh hm
    have h := evaluatedReply_reevaluated 0x8D tag .ok s { s.plans with schedule := s.plans.schedule.set e x }
    exact ⟨_, scheduleWrite_of_takes htakes rfl (judgeScheduleWrite_bytes e hh hm _), evaluatedReply_answered _ _ _ _ _,
      h.schedule, h.slot, h.inForce, h.override, h.clock, h.pendingPlan, h.seq, h.flt⟩
  case clock =>
    intro tag x s body htakes hh hm hs
    have h := evaluatedReply_reevaluated 0x8F tag .ok s { s.plans with clock := some x, clockMs := 0 }
    exact ⟨_, clockSet_of_takes htakes rfl (judgeClockSet_bytes hh hm hs _), evaluatedReply_answered _ _ _ _ _,
      h.clock, h.slot, h.schedule, h.inForce, h.override, h.pendingPlan, h.seq, h.flt⟩
  case selectRefused =>
    intro tag b s htakes hb
    exact ⟨_, planSelect_of_takes htakes (judgePlanSelect_of_gt hb _), replied_of_unchanged _ _ _ s⟩
  case scheduleRefused =>
    intro tag body item s htakes hlength hfirst
    exact ⟨_, scheduleWrite_of_takes htakes hlength (judgeScheduleWrite_refused hfirst _), replied_of_unchanged _ _ _ s⟩
  case clockRefused =>
    intro tag body item s htakes hlength hfirst
    exact ⟨_, clockSet_of_takes htakes hlength (judgeClockSet_refused hfirst _), replied_of_unchanged _ _ _ s⟩
  case second =>
    intro x s hx hdue hh hm hs
    obtain ⟨hcount, hhours, hminutes, hseconds⟩ := Tod.next_counts hh hm hs
    obtain ⟨hclock, hms, hinForce, hseq, hjds, hflt⟩ := clockTick_frame x s
    exact ⟨_, x.next, clockSecond_of_due hx hdue, hclock, hms, hcount, hhours, hminutes, hseconds,
      fun h => clockTick_within_minute h, fun h => pendingPlan_of_evaluated (clockTick_whole_minute h), hinForce,
      hseq, hjds, hflt⟩

end Sys2Proof.Proofs
end

section
/-! PROOF. DETECTOR-READ (R80): the values held, the latches that a read clears, and
`Obligations.DetectorReadClearsLatches` from them. -/

namespace Sys2Proof

variable {α : Type} {n : Nat}

/-- Changing each entry of a list of indices in its own way, one after the other. -/
theorem Tab.get_foldl_modify_each (f : Fin n → α → α) (i : Fin n) {l : List (Fin n)} (hl : l.Nodup) (t : Tab α n) :
    (l.foldl (fun t k => t.modify k (f k)) t).get i = if i ∈ l then f i (t.get i) else t.get i := by
  induction l generalizing t with
  | nil => simp
  | cons k l ih =>
    obtain ⟨hk, hl⟩ := List.nodup_cons.mp hl
    rw [List.foldl_cons, ih hl, Tab.get_modify]
    by_cases hik : k = i
    · subst hik; simp [hk]
    · simp [hik, Ne.symm hik]

theorem Tab.allFin_foldl_modify_each (f : Fin n → α → α) (t : Tab α n) :
    (allFin n).foldl (fun t k => t.modify k (f k)) t = Tab.ofFn fun i => f i (t.get i) := by
  refine Tab.ext_get fun i => ?_
  rw [Tab.get_foldl_modify_each f i (l := allFin n) (List.nodup_finRange n), if_pos (mem_allFin i), Tab.get_ofFn]

end Sys2Proof

namespace Sys2Proof.Machine

variable {s t u : State}

/-! ### The record of a detector (R73) -/

theorem recOf_onRec (d e : Detector) (f : Det1 → Det1) (s : State) :
    recOf (onRec d f s) e = if d = e then f (recOf s e) else recOf s e := Tab.get_modify ..

@[simp] theorem recOf_onRec_same (d : Detector) (f : Det1 → Det1) (s : State) :
    recOf (onRec d f s) d = f (recOf s d) := Tab.get_modify_same ..

/-! ### The latches after a read (R80) -/

/-- R80: the record of a detector of this stored kind after it has been read. -/
def Det1.read (kind : DetKind) (x : Det1) : Det1 :=
  if kind = .unused then x else { x with assertSeen := x.active, releaseSeen := !x.active }

theorem clearLatches_eq (d : Detector) (s : State) :
    clearLatches d s = onRec d (Det1.read (s.jds.detector.get d).kind) s := by
  unfold clearLatches Det1.read
  split
  next h => simp only [onRec, State.onDet, Tab.modify_eq_self]
  next h => rfl

/-- R80: of every detector in number order. -/
theorem forEach_clearLatches (s : State) : forEach clearLatches s = { s with det := { s.det with
    record := Tab.ofFn fun d => (recOf s d).read (s.jds.detector.get d).kind } } := by
  have each (l : List Detector) : ∀ t : State, t.jds = s.jds → l.foldl (fun t d => clearLatches d t) t =
      t.onDet fun x => { x with
        record := l.foldl (fun y d => y.modify d (Det1.read (s.jds.detector.get d).kind)) x.record } := by
    induction l with
    | nil => exact fun t _ => rfl
    | cons d l ih =>
      intro t h
      rw [List.foldl_cons, clearLatches_eq, h, ih (onRec d _ t) h]
      rfl
  rw [forEach, each _ s rfl]
  simp only [Tab.allFin_foldl_modify_each, State.onDet]
  rfl

/-! ### The request -/

theorem detectorRead_of_takes {tag b : Byte} {a : Answer} (h : takes s 0x2D tag [b] = true)
    (hjudge : judgeDetectorRead [b] (takeRequest s) = (a, u)) :
    exec (.detectorRead tag [b]) s = .next (finish (reply 0xAD tag a u)) := serve_of_judge h rfl hjudge

/-- A request that changes the detector records alone. -/
theorem replied_of_det (kind tag : Byte) (a : Answer) (s : State) (D : Det) :
    Replied s kind tag a { s with det := D } (finish (reply kind tag a { takeRequest s with det := D })) := by
  unfold Replied finish reply takeRequest State.onLnk
  rw [Lnk.start_frame, Lnk.taken_eq]

theorem judgeDetectorRead_number (d : Detector) (s : State) :
    judgeDetectorRead [number d] s = (.gives (detBytes s d), clearLatches d s) := by
  have hne : byteAt [number d] 0 ≠ 0 := by rw [byteAt_cons_zero, number_toNat (by decide)]; omega
  rw [judgeDetectorRead, if_neg hne, byteAt_cons_zero, index?_number (by decide)]

theorem judgeDetectorRead_zero (s : State) :
    judgeDetectorRead [0] s = (.gives ((allFin 24).flatMap (detBytes s)), forEach clearLatches s) := by
  rw [judgeDetectorRead, if_pos (by rfl)]

theorem judgeDetectorRead_of_gt {b : Byte} (h : 24 < b.toNat) (s : State) :
    judgeDetectorRead [b] s = (.badField 1, s) := by
  have hne : byteAt [b] 0 ≠ 0 := by rw [byteAt_cons_zero]; omega
  rw [judgeDetectorRead, if_neg hne, byteAt_cons_zero, index?_eq_none (by omega)]

end Sys2Proof.Machine

namespace Sys2Proof.Proofs

open Sys2Proof Sys2Proof.Machine

/-- Settles O45: what a read makes of the records is `Det1.read` of the one named, or of all. -/
theorem detectorReadClearsLatches : Obligations.DetectorReadClearsLatches := by
  unfold Obligations.DetectorReadClearsLatches
  intro read
  have read_eq (s : State) (d : Detector) : read s d = (recOf s d).read (s.jds.detector.get d).kind := rfl
  refine ⟨?one, ?all, ?outside⟩
  case one =>
    intro tag d s htakes
    refine ⟨_, detectorRead_of_takes htakes (judgeDetectorRead_number d _), ?_⟩
    rw [clearLatches_eq, read_eq]
    exact replied_of_det _ _ _ s _
  case all =>
    intro tag s htakes
    refine ⟨_, detectorRead_of_takes htakes (judgeDetectorRead_zero _), ?_⟩
    rw [forEach_clearLatches]
    exact replied_of_det _ _ _ s _
  case outside =>
    intro tag b s htakes hb
    exact ⟨_, detectorRead_of_takes htakes (judgeDetectorRead_of_gt hb _), replied_of_unchanged _ _ _ s⟩

end Sys2Proof.Proofs
end

section
/-! PROOF. What leaves SEQ's demand set no smaller: OSW touches of SEQ at most the start-up all-red timer (R53), SEQ's
answers to a change of junction mode only add flags (R26), and so does FLT taking its events. -/

namespace Sys2Proof.Machine

variable {s t u : State}

/-! ### OSW and the watches leave SEQ, the start-up all-red timer apart -/

/-- SEQ is as before, at most with another start-up all-red timer. -/
def LeavesSeq (s t : State) : Prop := t.seq = { s.seq with allRed := t.seq.allRed }

namespace LeavesSeq

theorem of_eq (h : t.seq = s.seq) : LeavesSeq s t := by rw [LeavesSeq, h]

theorem refl (s : State) : LeavesSeq s s := rfl

theorem trans (h1 : LeavesSeq s t) (h2 : LeavesSeq t u) : LeavesSeq s u := by
  unfold LeavesSeq at *
  rw [h2]
  rw [h1]

theorem ite {p : Prop} [Decidable p] (ht : LeavesSeq s t) (hu : LeavesSeq s u) : LeavesSeq s (if p then t else u) := by
  split <;> assumption

theorem foldl {α : Type} {f : State → α → State} (hf : ∀ t a, LeavesSeq t (f t a)) (l : List α) (s : State) :
    LeavesSeq s (l.foldl f s) := by
  induction l generalizing s with
  | nil => exact refl s
  | cons a l ih => exact (hf s a).trans (ih _)

theorem forEach {n : Nat} {f : Fin n → State → State} (hf : ∀ i t, LeavesSeq t (f i t)) (s : State) :
    LeavesSeq s (Machine.forEach f s) := foldl (fun t i => hf i t) _ s

end LeavesSeq

theorem coilFault_leavesSeq (f : CoilFault) (a b : FaultKind) (j : Subject) (s : State) :
    LeavesSeq s (coilFault f a b j s) := by
  cases f <;> exact .of_eq rfl

theorem commandRelease_cbl (b : Bool) (s : State) : ∃ c, commandRelease b s = { s with cbl := c } := by
  unfold commandRelease
  split <;> exact ⟨_, rfl⟩

/-- R160: an abandonment is an affair of CBL and its slot. -/
theorem abandon_eq (s : State) : ∃ c m, abandon s = { s with cbl := c, mea := m } := by
  have withdrawn (t : State) : ∃ m, withdraw .cbl t = { t with mea := m } := by
    unfold withdraw
    split <;> exact ⟨_, rfl⟩
  obtain ⟨_, hrelease⟩ := commandRelease_cbl false s
  unfold abandon
  split
  · exact ⟨_, _, rfl⟩
  · rw [hrelease]
    obtain ⟨_, hwithdraw⟩ := withdrawn _
    rw [hwithdraw]
    exact ⟨_, _, rfl⟩

/-- R159: and so is what CBL sees of SEQ and OSW. -/
theorem cblWatch_eq (s : State) : ∃ c m, cblWatch s = { s with cbl := c, mea := m } := by
  unfold cblWatch
  split
  · exact ⟨_, _, rfl⟩
  · split
    · exact abandon_eq s
    · exact ⟨_, _, rfl⟩

theorem cblWatch_seq (s : State) : (cblWatch s).seq = s.seq := by
  obtain ⟨_, _, h⟩ := cblWatch_eq s
  rw [h]

theorem commandRelay_leavesSeq (c : Circuit) (on : Bool) (s : State) : LeavesSeq s (commandRelay c on s) := by
  have switched (x : Coil × CoilFault) (t : State) : LeavesSeq t (relayTo c x t) :=
    .trans (t := onRelay c (fun r => { r with coil := x.1 }) t) rfl (coilFault_leavesSeq _ _ _ _ _)
  exact .ite rfl (.trans (t := onRelay c _ s) rfl (switched _ _))

theorem contactorTo_leavesSeq (x : Coil × CoilFault) (s : State) : LeavesSeq s (contactorTo x s) := by
  have noticed (t : State) : LeavesSeq t (contactorNotice t) := .ite rfl rfl
  have moved : LeavesSeq s (coilFault x.2 .contactorFailClosed .contactorFailOpen .none
      (s.onOsw fun o => { o with contactor := x.1 })) :=
    .trans (t := s.onOsw _) rfl (coilFault_leavesSeq _ _ _ _ _)
  exact .ite (moved.trans (noticed _)) moved

theorem commandContactor_leavesSeq (on : Bool) (s : State) : LeavesSeq s (commandContactor on s) :=
  .ite rfl (contactorTo_leavesSeq _ s)

theorem actCircuit_leavesSeq (c : Circuit) (s : State) : LeavesSeq s (actCircuit c s) :=
  .ite (.ite rfl (.trans (t := setEntering c false s) rfl (commandRelay_leavesSeq _ _ _))) rfl

theorem act_leavesSeq (g : Group) (s : State) : LeavesSeq s (act g s) :=
  .foldl (fun t c => actCircuit_leavesSeq c t) _ s

theorem judgeCircuit_leavesSeq (c : Circuit) (s : State) : LeavesSeq s (judgeCircuit c s) :=
  .ite (.trans (t := setEntering c false s) rfl (commandRelay_leavesSeq _ _ _)) rfl

theorem askCircuit_leavesSeq (c : Circuit) (s : State) : LeavesSeq s (askCircuit c s) := by
  refine .ite (.of_eq ?_) rfl
  obtain ⟨_, _, habandon⟩ := abandon_eq (onRelay c (fun x => { x with releaseAsked := true }) s)
  rw [habandon]
  obtain ⟨_, hrelease⟩ := commandRelease_cbl false _
  rw [hrelease]
  rfl

theorem darkCheck_leavesSeq (s : State) : LeavesSeq s (darkCheck s) := by
  have released : LeavesSeq s (forEach (fun c => commandRelay c false) s) :=
    .forEach (fun c t => commandRelay_leavesSeq c false t) s
  have phased (p : Phase) (t : State) : LeavesSeq t (t.onOsw fun o => { o with phase := p }) := rfl
  exact .ite (.ite ((released.trans (phased _ _)).trans (.forEach act_leavesSeq _)) (released.trans (phased _ _))) rfl

theorem redsCheck_leavesSeq (s : State) : LeavesSeq s (redsCheck s) :=
  .ite (.trans (t := s.onOsw fun o => { o with phase := .live }) rfl (commandContactor_leavesSeq _ _)) rfl

theorem conflictGroup_leavesSeq (g : Group) (s : State) : LeavesSeq s (conflictGroup g s) := .ite rfl (.ite rfl rfl)

theorem unproveCircuit_leavesSeq (c : Circuit) (s : State) : LeavesSeq s (unproveCircuit c s) := .ite rfl rfl

theorem oswAfter_leavesSeq (s : State) : LeavesSeq s (oswAfter s) := by
  unfold oswAfter lmpWatch
  exact (darkCheck_leavesSeq s).trans <| (LeavesSeq.forEach judgeCircuit_leavesSeq _).trans <|
    (LeavesSeq.forEach askCircuit_leavesSeq _).trans <| (redsCheck_leavesSeq _).trans <|
    (LeavesSeq.forEach conflictGroup_leavesSeq _).trans <|
    (LeavesSeq.forEach unproveCircuit_leavesSeq _).trans (.of_eq (cblWatch_seq _))

theorem groupCommand_leavesSeq (g : Group) (st : GState) (s : State) : LeavesSeq s (groupCommand g st s) := by
  have stored : LeavesSeq s (s.onOsw fun o => { o with stored := o.stored.set g st }) := rfl
  exact .ite (stored.trans ((act_leavesSeq g _).trans (oswAfter_leavesSeq _))) stored

theorem oswMode_leavesSeq (m : Mode) (s : State) : LeavesSeq s (oswMode m s) := by
  cases m with
  | startUp =>
    exact .ite (.trans (t := s.onOsw fun o => { o with phase := .redsFirst }) rfl
      ((LeavesSeq.forEach act_leavesSeq _).trans (oswAfter_leavesSeq _))) rfl
  | dark =>
    have started : LeavesSeq s (darkStart s) := .trans (t := s.onOsw _) rfl (commandContactor_leavesSeq _ _)
    exact .ite (started.trans (oswAfter_leavesSeq _)) rfl
  | _ => rfl

/-! ### The demand set (R25, R26) -/

/-- Every stage whose demand flag is set in `s` has it set in `t`. -/
def KeepsDemand (s t : State) : Prop := ∀ k, s.seq.demand.get k = true → t.seq.demand.get k = true

namespace KeepsDemand

theorem of_eq (h : t.seq.demand = s.seq.demand) : KeepsDemand s t := fun k hk => by rw [h]; exact hk

theorem of_leavesSeq (h : LeavesSeq s t) : KeepsDemand s t := of_eq (by rw [h])

theorem refl (s : State) : KeepsDemand s s := fun _ h => h

theorem trans (h1 : KeepsDemand s t) (h2 : KeepsDemand t u) : KeepsDemand s u := fun k h => h2 k (h1 k h)

/-- A change of SEQ apart from its demand set, first. -/
theorem afterSeq (f : Seq → Seq) (hf : (f s.seq).demand = s.seq.demand) (h : KeepsDemand (s.onSeq f) t) :
    KeepsDemand s t := trans (of_eq hf) h

theorem ite {p : Prop} [Decidable p] (ht : KeepsDemand s t) (hu : KeepsDemand s u) :
    KeepsDemand s (if p then t else u) := by
  split <;> assumption

theorem foldl {α : Type} {f : State → α → State} (hf : ∀ t a, KeepsDemand t (f t a)) (l : List α) (s : State) :
    KeepsDemand s (l.foldl f s) := by
  induction l generalizing s with
  | nil => exact refl s
  | cons a l ih => exact (hf s a).trans (ih _)

end KeepsDemand

/-- Flags may have been added to the demand set, and nothing else has changed. -/
def AddsDemand (s t : State) : Prop :=
  t = { s with seq := { s.seq with demand := t.seq.demand } } ∧ KeepsDemand s t

namespace AddsDemand

theorem refl (s : State) : AddsDemand s s := ⟨rfl, .refl s⟩

theorem trans (h1 : AddsDemand s t) (h2 : AddsDemand t u) : AddsDemand s u := by
  obtain ⟨hs, hd⟩ := h1
  obtain ⟨ht, he⟩ := h2
  refine ⟨?_, hd.trans he⟩
  rw [ht]
  rw [hs]

theorem flag (k : Stage) (s : State) : AddsDemand s (s.onSeq fun q => { q with demand := q.demand.set k true }) := by
  refine ⟨rfl, fun i hi => ?_⟩
  rw [State.onSeq_seq, Tab.get_set]
  split
  · rfl
  · exact hi

theorem ite {p : Prop} [Decidable p] (ht : AddsDemand s t) (hu : AddsDemand s u) :
    AddsDemand s (if p then t else u) := by
  split <;> assumption

theorem foldl {α : Type} {f : State → α → State} (hf : ∀ t a, AddsDemand t (f t a)) (l : List α) (s : State) :
    AddsDemand s (l.foldl f s) := by
  induction l generalizing s with
  | nil => exact refl s
  | cons a l ih => exact (hf s a).trans (ih _)

end AddsDemand

theorem holdDemand_addsDemand (k : Stage) (s : State) : AddsDemand s (holdDemand k s) := .ite (.flag k s) (.refl s)

theorem holdDemands_addsDemand (s : State) : AddsDemand s (holdDemands s) :=
  .foldl (fun t k => holdDemand_addsDemand k t) _ s

theorem postDemand_addsDemand (k : Stage) (s : State) : AddsDemand s (postDemand k s) := .ite (.refl s) (.flag k s)

theorem repost_addsDemand (k : Stage) (s : State) : AddsDemand s (repost k s) := .ite (.flag k s) (.refl s)

/-! ### Entry into COMMIT (R35, R67, R68) -/

/-- R67, R68: taking the pending plan changes the references, SEQ's position and demand set, and posts. -/
theorem takePlan_eq (o : Occasion) (s : State) : ∃ P p t, KeepsDemand s t ∧ takePlan o s = { s with
    plans := P
    seq := { s.seq with position := p, demand := t.seq.demand }
    lnk := s.lnk.posted s.uptime (planPostings o.code s) } := by
  unfold takePlan planPostings
  cases hplan : s.plans.pendingPlan with
  | none => exact ⟨s.plans, s.seq.position, s, .refl s, rfl⟩
  | some p =>
    simp only
    generalize hu : State.onSeq _ _ = u
    obtain ⟨heq, hkeep⟩ := holdDemands_addsDemand u
    refine ⟨u.plans, u.seq.position, holdDemands u, .trans (.of_eq ?_) hkeep, heq.trans ?_⟩
    · rw [← hu]; rfl
    · rw [← hu]; rfl

/-- What an answer of SEQ to a detector leaves: FLT, the detectors and the gap timer; at most one report is posted. -/
structure EndsStage (s t : State) : Prop where
  flt : t.flt = s.flt
  gap : t.seq.gap = s.seq.gap
  demand : KeepsDemand s t
  lnk : ∃ l : List Posting, l.length ≤ 1 ∧ t.lnk = s.lnk.posted s.uptime l

theorem EndsStage.refl (s : State) : EndsStage s s := ⟨rfl, rfl, .refl s, [], by simp, rfl⟩

theorem planPostings_length (b : Byte) (s : State) : (planPostings b s).length ≤ 1 := by
  unfold planPostings
  split <;> simp

theorem commitEntry_endsStage (a : Option Stage) (o : Occasion) (s : State) : EndsStage s (commitEntry a o s) := by
  obtain ⟨P, p, v, hkeep, htake⟩ := takePlan_eq o s
  have maximum : ∃ m, startMaximum (takePlan o s) = (takePlan o s).onSeq fun q => { q with maximum := m } := by
    unfold startMaximum
    split <;> exact ⟨_, rfl⟩
  obtain ⟨m, hmaximum⟩ := maximum
  unfold commitEntry
  simp only [hmaximum]
  obtain ⟨c, x, hwatch⟩ := cblWatch_eq (((takePlan o s).onSeq fun q => { q with maximum := m }).onSeq _)
  rw [hwatch, htake]
  exact ⟨rfl, rfl, hkeep, _, planPostings_length _ s, rfl⟩

theorem seqEnd_endsStage (s : State) : EndsStage s (seqEnd s) := by
  unfold seqEnd
  split
  · split
    · exact commitEntry_endsStage _ _ s
    · obtain ⟨hflt, hgap, hdemand, hlnk⟩ :=
        commitEntry_endsStage none .commit (s.onSeq fun q => { q with substate := some .running })
      exact ⟨hflt, hgap, hdemand, hlnk⟩
  · exact .refl s

/-! ### SEQ's answer to a change of junction mode -/

theorem stopCurrent_keepsDemand (s : State) : KeepsDemand s (stopCurrent s) := by
  unfold stopCurrent
  split
  · exact .refl s
  · exact .afterSeq _ rfl (repost_addsDemand _ _).2

theorem seqStart_keepsDemand (s : State) : KeepsDemand s (seqStart s) :=
  have reddened (g : Group) (t : State) : KeepsDemand t (redGroup g t) :=
    .ite (.afterSeq _ rfl (.of_leavesSeq (groupCommand_leavesSeq g .red _))) (.refl t)
  .afterSeq _ rfl (.foldl (fun t g => reddened g t) _ _)

theorem seqAllRed_keepsDemand (s : State) : KeepsDemand s (seqAllRed s) := by
  have emptied (t : State) : KeepsDemand t (emptyTarget t) := by
    unfold emptyTarget
    split
    · exact .of_eq (by rw [cblWatch_seq]; rfl)
    · exact .refl t
  exact .afterSeq _ rfl (.ite (emptied _) (.ite (commitEntry_endsStage none .commit _).demand (.refl _)))

theorem seqMode_keepsDemand (prev new : Mode) (s : State) : KeepsDemand s (seqMode prev new s) := by
  unfold seqMode
  split
  · exact stopCurrent_keepsDemand s
  · exact stopCurrent_keepsDemand s
  · exact seqStart_keepsDemand s
  · exact seqAllRed_keepsDemand s
  · exact (seqEnd_endsStage s).demand
  · exact .afterSeq _ rfl (commitEntry_endsStage none .resume (noStage s)).demand
  · exact .refl s

/-! ### FLT takes its events -/

theorem changeMode_keepsDemand (new : Mode) (cause : ModeCause) (s : State) :
    KeepsDemand s (changeMode new cause s) := by
  have entered : KeepsDemand s (if new = .dark then setAside (s.onFlt fun f => { f with mode := new })
      else s.onFlt fun f => { f with mode := new }) := .ite (.refl s) (.refl s)
  have handed := (entered.trans (seqMode_keepsDemand s.flt.mode new _)).trans
    (.of_leavesSeq (oswMode_leavesSeq new _))
  exact .ite (p := (s.flt.mode = .dark && new = .startUp) = true) (t := lmpRestart _) handed handed

theorem clearStandIns_keepsDemand (s : State) : KeepsDemand s (clearStandIns s) :=
  .foldl (fun t (e : FEntry) => .of_eq (t := clearEntry e.kind e.subject t) rfl) _ s

theorem startUp_keepsDemand (cause : ModeCause) (s : State) : KeepsDemand s (startUp cause s) := by
  have started := (changeMode_keepsDemand .startUp cause s).trans (clearStandIns_keepsDemand _)
  unfold startUp
  simp only
  split
  · exact .ite (started.trans (changeMode_keepsDemand _ _ _)) started
  · exact started

theorem takeClear_keepsDemand (k : FaultKind) (j : Subject) (s : State) : KeepsDemand s (takeClear k j s) := by
  unfold takeClear
  split
  · exact .refl s
  · split
    · exact .ite (startUp_keepsDemand .autoRestart (clearEntry k j s)) (.refl s)
    · exact .refl s
    · exact .refl s

theorem record_seq (k : FaultKind) (j : Subject) (s : State) : (record k j s).2.seq = s.seq := by
  unfold record
  simp only
  split
  · rfl
  · split
    · rfl
    · split <;> rfl

theorem takeRaise_keepsDemand (k : FaultKind) (j : Subject) (d : Byte) (s : State) :
    KeepsDemand s (takeRaise k j d s) := by
  have responded (r : Response) (t : State) : KeepsDemand t (respond r k j t) :=
    .ite (.ite (.refl t) (.refl t)) (.ite (changeMode_keepsDemand _ _ (t.onFlt _)) (changeMode_keepsDemand _ _ t))
  have recorded : KeepsDemand s (record k j s).2 := .of_eq (by rw [record_seq])
  exact recorded.trans (responded _ (post .faultRaised true j.report _ (record k j s).2))

theorem takePassed_keepsDemand (k : FaultKind) (j : Subject) (s : State) : KeepsDemand s (takePassed k j s) := by
  have passed (k : FaultKind) (t : State) : KeepsDemand t (passEntry k j t) := .ite (.refl t) (.refl t)
  exact .ite ((passed k s).trans (passed _ _)) (passed k s)

theorem fltTake_keepsDemand (e : FltEvent) (s : State) : KeepsDemand s (fltTake e s) := by
  cases e with
  | raise k j d => exact takeRaise_keepsDemand k j d s
  | clear k j => exact takeClear_keepsDemand k j s
  | passed k j => exact takePassed_keepsDemand k j s
  | firstInterstage => exact .ite (changeMode_keepsDemand _ _ s) (.refl s)

theorem drain_keepsDemand (n : Nat) (s : State) : KeepsDemand s (drain n s) := by
  induction n generalizing s with
  | zero => exact .refl s
  | succ n ih =>
    unfold drain
    split
    · exact .refl s
    · exact (fltTake_keepsDemand _ (s.onFlt _)).trans (ih _)

end Sys2Proof.Machine
end

section
/-! PROOF. What FLT makes of a detector's raise or clear (R174, R177, R179), how long a report stays in the queue
(R194), and how SEQ's demand set takes the postings and the held demands of a detector (R25, R26, R77, R85). -/

namespace Sys2Proof

variable {α : Type} {n : Nat}

theorem Tab.modify_modify (t : Tab α n) (i : Fin n) (f g : α → α) :
    (t.modify i f).modify i g = t.modify i fun x => g (f x) := by
  refine Tab.ext_get fun k => ?_
  simp only [Tab.get_modify]
  split <;> rfl

@[simp] theorem Tab.mem_members {t : Flags n} {i : Fin n} : i ∈ t.members ↔ t.get i = true := by
  simp [Tab.members]

end Sys2Proof

namespace Sys2Proof.Machine

variable {s t u : State}

/-! ### Reports that find room (R194) -/

theorem Lnk.posting_of_room {q : Lnk} (h : q.reports.length < 32) (now : Uptime) (x : Posting) :
    (q.posting now x).reports = if q.wants x.1 x.2.1 then
      q.reports ++ [⟨x.1, x.2.1, now, x.2.2.1, q.lost, x.2.2.2⟩] else q.reports := by
  unfold Lnk.posting Lnk.enqueue
  rw [if_pos h]
  split <;> rfl

theorem Lnk.posting_wants (now : Uptime) (x : Posting) (q : Lnk) (k : ReportKind) (a : Bool) :
    (q.posting now x).wants k a = q.wants k a := by
  rw [Lnk.posting_frame]
  rfl

theorem Lnk.posting_room {q : Lnk} {n : Nat} (h : q.reports.length + (n + 1) ≤ 32) (now : Uptime) (x : Posting) :
    (q.posting now x).reports.length + n ≤ 32 := by
  rw [Lnk.posting_of_room (by omega)]
  split
  · rw [List.length_append, List.length_singleton]; omega
  · omega

/-- A report that waits stays through postings that find room. -/
theorem Lnk.mem_posted_of_mem {r : Report} (now : Uptime) (l : List Posting) {q : Lnk}
    (hroom : q.reports.length + l.length ≤ 32) (h : r ∈ q.reports) : r ∈ (q.posted now l).reports := by
  induction l generalizing q with
  | nil => exact h
  | cons x l ih =>
    rw [List.length_cons] at hroom
    refine ih (Lnk.posting_room hroom now x) ?_
    rw [Lnk.posting_of_room (by omega)]
    split
    · exact List.mem_append_left _ h
    · exact h

/-- Every posting of a list that finds room and is wanted waits after it. -/
theorem Lnk.mem_posted {x : Posting} (now : Uptime) {l : List Posting} {q : Lnk} (hx : x ∈ l)
    (hwants : q.wants x.1 x.2.1 = true) (hroom : q.reports.length + l.length ≤ 32) :
    ∃ lost, (⟨x.1, x.2.1, now, x.2.2.1, lost, x.2.2.2⟩ : Report) ∈ (q.posted now l).reports := by
  induction l generalizing q with
  | nil => exact absurd hx (by simp)
  | cons y l ih =>
    rw [List.length_cons] at hroom
    have hrest := Lnk.posting_room hroom now y
    rcases List.mem_cons.mp hx with rfl | hx
    · refine ⟨q.lost, Lnk.mem_posted_of_mem now l hrest ?_⟩
      rw [Lnk.posting_of_room (by omega), if_pos hwants]
      exact List.mem_append_right _ (List.mem_singleton.mpr rfl)
    · exact ih hx (by rw [Lnk.posting_wants, hwants]) hrest

/-- R84: the posting of a DETECTOR-STATE report about this record. -/
def statePosting (d : Detector) (x : Det1) : Posting := (.detectorState, false, .detector d, detectorStateFields x)

theorem reported_of_posted {d : Detector} {x : Det1} {l : List Posting} (hx : statePosting d x ∈ l)
    (hkind : s.lnk.kinds.get 8 = true) (hroom : s.lnk.reports.length + l.length ≤ 32)
    (ht : t.lnk.reports = (s.lnk.posted s.uptime l).reports) :
    Reported s t .detectorState (.detector d) (detectorStateFields x) := by
  unfold Reported
  rw [ht]
  exact Lnk.mem_posted s.uptime hx hkind hroom

theorem detectorStateFields_eq (x : Det1) : [x.stateCode, x.fault.code, x.conditions] = detectorStateFields x := by
  unfold detectorStateFields
  cases x.fault <;> rfl

theorem detReport_eq (d : Detector) (s : State) : detReport d s =
    { s with lnk := s.lnk.posted s.uptime [statePosting d (recOf s d)] } := by
  rw [detReport, detectorStateFields_eq, post_eq]
  rfl

/-! ### A detector's raise (R174, R177, R178) -/

/-- R174: the kinds whose subject is a detector. -/
def detectorKinds : List FaultKind := [.detectorStuckOn, .detectorSilent, .detectorChatter]

theorem record_eq (k : FaultKind) (j : Subject) (s : State) :
    (record k j s).2 = { s with flt := (record k j s).2.flt } ∧ (record k j s).2.flt.inbox = s.flt.inbox := by
  unfold record
  simp only
  split
  · exact ⟨rfl, rfl⟩
  · split
    · exact ⟨rfl, rfl⟩
    · split <;> exact ⟨rfl, rfl⟩

/-- R177, R178: the list after a raise is a matter of the list before and of the uptime. -/
theorem record_congr (k : FaultKind) (j : Subject) (hflt : t.flt = s.flt) (hnow : t.uptime = s.uptime) :
    (record k j t).2.flt = (record k j s).2.flt := by
  unfold record findEntry changeEntry setList
  simp only [State.onFlt, hflt, hnow]
  split
  · rfl
  · split
    · rfl
    · split <;> rfl

theorem responseAtRaise_detector {k : FaultKind} (hk : k ∈ detectorKinds) (d : Detector) (s : State) :
    responseAtRaise s k (.detector d) = .report := by
  simp only [detectorKinds, List.mem_cons, List.not_mem_nil, or_false] at hk
  rcases hk with rfl | rfl | rfl <;> rfl

theorem respond_report (k : FaultKind) (j : Subject) (s : State) : respond .report k j s = s := by
  have same (m : Mode) : modeAfter .report m = m := by cases m <;> rfl
  simp [respond, same]

/-- R174, R175: a detector's raise is recorded and reported, in any mode, and has no further response. -/
theorem takeRaise_detector {k : FaultKind} (hk : k ∈ detectorKinds) (d : Detector) (x : Byte) (s : State) :
    ∃ fields, takeRaise k (.detector d) x s = { s with
      flt := (record k (.detector d) s).2.flt
      lnk := s.lnk.posted s.uptime [(.faultRaised, true, .detector d, fields)] } := by
  obtain ⟨heq, -⟩ := record_eq k (.detector d) s
  have posted : ∃ fields, takeRaise k (.detector d) x s =
      post .faultRaised true (.detector d) fields (record k (.detector d) s).2 := by
    simp only [takeRaise, responseAtRaise_detector hk, respond_report]
    exact ⟨_, rfl⟩
  obtain ⟨fields, htake⟩ := posted
  refine ⟨fields, ?_⟩
  rw [htake, post_eq, heq]

/-! ### A detector's clear (R179) -/

/-- R179: FLT after a clear that starts nothing. -/
def Flt.cleared (k : FaultKind) (j : Subject) (f : Flt) : Flt :=
  match f.list.find? (FEntry.is k j) with
  | none => f
  | some e =>
    if e.state = .cleared then f
    else
      let l := f.list.map fun e => e.clearedIf (e.is k j)
      { f with list := l, output := l.any FEntry.isActive }

/-- R179: its FAULT-CLEARED report. -/
def Flt.clearPostings (k : FaultKind) (j : Subject) (f : Flt) : List Posting :=
  match f.list.find? (FEntry.is k j) with
  | none => [(.faultCleared, false, j.report, [b8 k.code, flagByte false])]
  | some e => if e.state = .cleared then [] else [(.faultCleared, false, j.report, [b8 k.code, flagByte true])]

theorem autoRestart_of_not_dark (h : s.flt.mode ≠ .dark) : autoRestart s = s := by
  simp [autoRestart, autoRestartNow, h]

/-- R170, R179: outside DARK a clear starts no auto restart. -/
theorem takeClear_eq (k : FaultKind) (j : Subject) (h : s.flt.mode ≠ .dark) : takeClear k j s = { s with
    flt := s.flt.cleared k j
    lnk := s.lnk.posted s.uptime (s.flt.clearPostings k j) } := by
  have hrestart : autoRestart (clearEntry k j s) = clearEntry k j s := autoRestart_of_not_dark (s := clearEntry k j s) h
  unfold takeClear findEntry Flt.cleared Flt.clearPostings
  cases hfind : s.flt.list.find? (FEntry.is k j) with
  | none => rfl
  | some e =>
    cases hstate : e.state with
    | active => simp only [hstate, hrestart]; rfl
    | pendingRetest => simp only [hstate]; rfl
    | cleared => simp only [hstate]; rfl

theorem Flt.clearPostings_length (k : FaultKind) (j : Subject) (f : Flt) : (f.clearPostings k j).length ≤ 1 := by
  unfold Flt.clearPostings
  split
  · simp
  · split <;> simp

theorem Flt.cleared_frame (k : FaultKind) (j : Subject) (f : Flt) :
    f.cleared k j = { f with list := (f.cleared k j).list, output := (f.cleared k j).output } := by
  unfold Flt.cleared
  split
  · rfl
  · split <;> rfl

/-- R179: the entries of this kind and subject are CLEARED, unless the first of them was. -/
theorem Flt.cleared_list (k : FaultKind) (j : Subject) (f : Flt) : ∃ b : Bool,
    (f.cleared k j).list = f.list.map (fun e => e.clearedIf (b && e.is k j)) ∧
    (b = false → ∀ e, f.list.find? (FEntry.is k j) = some e → e.state = .cleared) := by
  have same : (f.list.map fun e => e.clearedIf (false && e.is k j)) = f.list := List.map_id _
  unfold Flt.cleared
  split
  next hfind => exact ⟨false, same.symm, by simp [hfind]⟩
  next e hfind =>
    split
    next hstate => exact ⟨false, same.symm, by simp [hfind, hstate]⟩
    next => exact ⟨true, by simp, by simp⟩

theorem FEntry.is_iff (k : FaultKind) (j : Subject) (e : FEntry) : e.is k j = true ↔ e.kind = k ∧ e.subject = j := by
  simp [FEntry.is]

theorem Flt.cleared_length (k : FaultKind) (j : Subject) (f : Flt) :
    (f.cleared k j).list.length = f.list.length := by
  obtain ⟨b, hlist, -⟩ := f.cleared_list k j
  rw [hlist, List.length_map]

theorem Flt.cleared_getElem? {k : FaultKind} {j : Subject} {f : Flt} {i : Nat} {e : FEntry} (h : f.list[i]? = some e)
    (hne : ¬(e.kind = k ∧ e.subject = j)) : (f.cleared k j).list[i]? = some e := by
  have hno : e.is k j = false := Bool.eq_false_iff.mpr fun his => hne ((FEntry.is_iff k j e).mp his)
  obtain ⟨b, hlist, -⟩ := f.cleared_list k j
  rw [hlist, List.getElem?_map, h, Option.map_some, hno, Bool.and_false]
  rfl

/-- R177: no entry of this kind and subject, or a CLEARED one. -/
def Flt.Cleared (k : FaultKind) (j : Subject) (f : Flt) : Prop :=
  ∀ e, f.list.find? (FEntry.is k j) = some e → e.state = .cleared

/-- The entry of one kind and subject after a clear of another or the same. -/
theorem Flt.cleared_find? (k k' : FaultKind) (j j' : Subject) (f : Flt) : ∃ b : Bool,
    (f.cleared k j).list.find? (FEntry.is k' j') =
      (f.list.find? (FEntry.is k' j')).map (fun e => e.clearedIf (b && e.is k j)) ∧
    (b = false → f.Cleared k j) := by
  obtain ⟨b, hlist, hb⟩ := f.cleared_list k j
  refine ⟨b, ?_, hb⟩
  rw [hlist, List.find?_map]
  simp only [Function.comp_def, FEntry.is_clearedIf]

theorem Flt.Cleared.cleared {k : FaultKind} {j : Subject} {f : Flt} (h : f.Cleared k j) (k' : FaultKind)
    (j' : Subject) : (f.cleared k' j').Cleared k j := by
  obtain ⟨b, hfind, -⟩ := f.cleared_find? k' k j' j
  intro e he
  rw [hfind, Option.map_eq_some_iff] at he
  obtain ⟨x, hx, rfl⟩ := he
  rw [FEntry.clearedIf_of_cleared (h x hx)]
  exact h x hx

theorem Flt.cleared_cleared (k : FaultKind) (j : Subject) (f : Flt) : (f.cleared k j).Cleared k j := by
  obtain ⟨b, hfind, hb⟩ := f.cleared_find? k k j j
  intro e he
  rw [hfind, Option.map_eq_some_iff] at he
  obtain ⟨x, hx, rfl⟩ := he
  cases b with
  | false => exact hb rfl x hx
  | true => rw [Bool.true_and, List.find?_some hx]; rfl

/-! ### Postings to the demand set (R25, R26, R77, R85) -/

/-- A flag that one step of a run of postings sets stays set. -/
theorem AddsDemand.foldl_sets {α : Type} {f : State → α → State} (hf : ∀ t a, AddsDemand t (f t a)) {l : List α} {a : α}
    {k : Stage} (ha : a ∈ l) (hset : ∀ t, AddsDemand s t → (f t a).seq.demand.get k = true) :
    (l.foldl f s).seq.demand.get k = true := by
  obtain ⟨before, after, rfl⟩ := List.append_of_mem ha
  rw [List.foldl_append, List.foldl_cons]
  exact (AddsDemand.foldl hf after _).2 k (hset _ (AddsDemand.foldl hf before s))

theorem AddsDemand.current (h : AddsDemand s t) : t.seq.current = s.seq.current := by rw [h.1]

theorem AddsDemand.stageShown (h : AddsDemand s t) : stageShown t = stageShown s := by rw [h.1]; rfl

theorem AddsDemand.shownStage (h : AddsDemand s t) : shownStage t = shownStage s := by rw [h.1]; rfl

theorem AddsDemand.heldDemand (h : AddsDemand s t) (k : Stage) : heldDemand t k = heldDemand s k := by rw [h.1]; rfl

theorem holdDetector_addsDemand (d : Detector) (s : State) : AddsDemand s (holdDetector d s) :=
  .ite (.foldl (fun t k => holdDemand_addsDemand k t) _ s) (.refl s)

/-- R85: the stages that a substituted detector demands, the current one apart, have their flags set. -/
theorem holdDetector_sets {d : Detector} {k : Stage} (hsub : substituted s d = true)
    (hk : (s.jds.detector.get d).demand.get k = true) (hcurrent : s.seq.current ≠ some k) :
    (holdDetector d s).seq.demand.get k = true := by
  rw [holdDetector, if_pos hsub]
  refine AddsDemand.foldl_sets (fun t k => holdDemand_addsDemand k t) (Tab.mem_members.mpr hk) fun t ht => ?_
  have held : Machine.heldDemand s k = true := by
    simp only [Machine.heldDemand, Bool.or_eq_true, List.any_eq_true, Bool.and_eq_true]
    exact .inr ⟨d, mem_allFin d, hsub, hk⟩
  rw [holdDemand, if_pos (by simp [ht.heldDemand, ht.current, held, hcurrent])]
  exact Tab.get_set_same ..

/-- What the postings of an activation (R77) leave: every block but SEQ, and of SEQ all but demand set and gap. -/
structure Posts (d : Detector) (s t : State) : Prop where
  eq : t = { s with seq := { s.seq with demand := t.seq.demand, gap := t.seq.gap } }
  keeps : KeepsDemand s t
  demand : ∀ k, (s.jds.detector.get d).demand.get k = true → ¬(stageShown s = true ∧ s.seq.current = some k) →
    t.seq.demand.get k = true
  gap : ∀ k, shownStage s = some k → (s.jds.detector.get d).extend.get k = true → t.seq.gap = some 0

theorem extend_eq (set : Flags 12) (s : State) : ∃ g, extend set s = s.onSeq (fun q => { q with gap := g }) ∧
    ∀ k, shownStage s = some k → set.get k = true → g = some 0 := by
  unfold extend
  split
  next k hshown =>
    split
    next => exact ⟨some 0, rfl, fun _ _ _ => rfl⟩
    next hset =>
      refine ⟨s.seq.gap, rfl, fun i hi hi' => ?_⟩
      rw [hshown] at hi
      exact absurd (Option.some.inj hi ▸ hi') hset
  next hshown => exact ⟨s.seq.gap, rfl, fun k hk => by simp [hshown] at hk⟩

theorem postings_posts (d : Detector) (s : State) : Posts d s (postings d s) := by
  have adds := AddsDemand.foldl (fun t k => postDemand_addsDemand k t) (s.jds.detector.get d).demand.members s
  obtain ⟨g, heq, hgap⟩ := extend_eq (s.jds.detector.get d).extend
    ((s.jds.detector.get d).demand.members.foldl (fun t k => postDemand k t) s)
  rw [adds.shownStage] at hgap
  have sets {k : Stage} (hk : (s.jds.detector.get d).demand.get k = true)
      (hshown : ¬(stageShown s = true ∧ s.seq.current = some k)) :
      ((s.jds.detector.get d).demand.members.foldl (fun t k => postDemand k t) s).seq.demand.get k = true := by
    refine AddsDemand.foldl_sets (fun t k => postDemand_addsDemand k t) (Tab.mem_members.mpr hk) fun t ht => ?_
    rw [postDemand, if_neg (by simpa [ht.stageShown, ht.current] using hshown)]
    exact Tab.get_set_same ..
  unfold postings
  simp only [heq]
  generalize List.foldl _ s _ = v at *
  obtain ⟨hv, hkeep⟩ := adds
  refine ⟨?_, hkeep, fun k hk hshown => sets hk hshown, hgap⟩
  rw [hv]
  rfl

end Sys2Proof.Machine
end

section
/-! PROOF. A monitor's change of a condition and the end of a detector's command (R30, R81 to R85): what becomes of the
records whatever waits for FLT, and what FLT, SEQ and the report queue make of it with nothing waiting. -/

namespace Sys2Proof.Machine

variable {s t u : State} {d : Detector}

/-! ### The records, whatever waits for FLT -/

theorem onRec_onRec (d : Detector) (f g : Det1 → Det1) (s : State) :
    onRec d g (onRec d f s) = onRec d (fun x => g (f x)) s := by
  simp only [onRec, State.onDet_onDet, Tab.modify_modify]

theorem onRec_eq_self {f : Det1 → Det1} (h : f (recOf s d) = recOf s d) : onRec d f s = s := by
  simp only [onRec, State.onDet, Tab.modify_eq_self _ _ h]

/-- Of the detectors, the record of `d` alone has changed, by `g`; the description stands, and no demand is lost. -/
structure Judges (d : Detector) (g : Det1 → Det1) (s t : State) : Prop where
  det : t.det = (onRec d g s).det
  jds : t.jds = s.jds
  demand : KeepsDemand s t

namespace Judges

variable {f g : Det1 → Det1}

theorem onRec (d : Detector) (g : Det1 → Det1) (s : State) : Judges d g s (onRec d g s) := ⟨rfl, rfl, .refl s⟩

theorem record (h : Judges d g s t) (e : Detector) : recOf t e = if d = e then g (recOf s e) else recOf s e := by
  rw [← recOf_onRec]
  exact congrArg (fun x : Det => x.record.get e) h.det

theorem record_same (h : Judges d g s t) : recOf t d = g (recOf s d) := by rw [h.record, if_pos rfl]

theorem record_ne (h : Judges d g s t) (e : Detector) (he : e ≠ d) : recOf t e = recOf s e := by
  rw [h.record, if_neg he.symm]

theorem trans (h1 : Judges d f s t) (h2 : Judges d g t u) : Judges d (fun x => g (f x)) s u := by
  refine ⟨?_, h2.jds.trans h1.jds, h1.demand.trans h2.demand⟩
  have hdet : (Machine.onRec d g t).det = (Machine.onRec d g (Machine.onRec d f s)).det := by
    simp only [Machine.onRec, State.onDet_det, h1.det]
  rw [h2.det, hdet, onRec_onRec]

/-- What follows leaves the detectors as they are. -/
theorem followed (h : Judges d g s t) (hdet : u.det = t.det) (hjds : u.jds = t.jds) (hkeep : KeepsDemand t u) :
    Judges d g s u := ⟨hdet.trans h.det, hjds.trans h.jds, h.demand.trans hkeep⟩

end Judges

theorem holdDetector_drives (d : Detector) (s : State) : Drives s (holdDetector d s) :=
  .ite (.foldl _ (fun t k => holdDemand_drives k t) _ s) (.refl s)

theorem monitor_responds (d : Detector) (f : Det1 → Det1) (e : FltEvent) (s : State) :
    Responds (onRec d f s) (monitor d f (toFlt e) s) :=
  ((Responds.drives ((Drives.event _ e).trans (holdDetector_drives d _))).trans (drain_responds _ _)).trans
    (.drives (.post _ _ _ _ _))

theorem monitor_judges (d : Detector) (f : Det1 → Det1) (e : FltEvent) (s : State) :
    Judges d f s (monitor d f (toFlt e) s) := by
  obtain ⟨-, hjds, hdet, -⟩ := (monitor_responds d f e s).frame
  have held := (holdDetector_addsDemand d (toFlt e (onRec d f s))).2
  exact ⟨hdet, hjds, .trans (t := holdDetector d (toFlt e (onRec d f s))) held (drain_keepsDemand eventFuel _)⟩

/-- R85: a detector that the change leaves substituted holds its demands. -/
theorem monitor_holds {f : Det1 → Det1} {k : Stage} (e : FltEvent) (hserved : s.jds.served d = true)
    (hfault : (f (recOf s d)).fault ≠ .none) (hk : (s.jds.detector.get d).demand.get k = true)
    (hcurrent : s.seq.current ≠ some k) : (monitor d f (toFlt e) s).seq.demand.get k = true := by
  have sub : substituted (toFlt e (onRec d f s)) d = true := by
    have hrec : (toFlt e (onRec d f s)).det.record.get d = f (recOf s d) := recOf_onRec_same d f s
    have hjds : (toFlt e (onRec d f s)).jds = s.jds := rfl
    rw [substituted, hrec, hjds, hserved, decide_eq_true hfault]
    rfl
  exact drain_keepsDemand eventFuel _ k (holdDetector_sets sub hk hcurrent)

/-- A monitor whose condition is tested first: `g` is its change where it acts, and none where it does not. -/
theorem monitor_judges_if {f g : Det1 → Det1} {p : Prop} [Decidable p] (e : FltEvent)
    (hp : p → f (recOf s d) = g (recOf s d)) (hn : ¬p → g (recOf s d) = recOf s d) :
    Judges d g s (if p then monitor d f (toFlt e) s else s) := by
  split
  next h =>
    have same : onRec d f s = onRec d g s := by
      simp only [onRec, State.onDet]
      exact congrArg (fun x => ({ s with det := { s.det with record := s.det.record.set d x } } : State)) (hp h)
    obtain ⟨hdet, hjds, hkeep⟩ := monitor_judges d f e s
    exact ⟨hdet.trans (by rw [same]), hjds, hkeep⟩
  next h => exact ⟨by rw [onRec_eq_self (hn h)], rfl, .refl s⟩

/-- The end of a detector's command changes no record and loses no demand. -/
theorem detDone_rest (t : State) :
    (detDone t).det = t.det ∧ (detDone t).jds = t.jds ∧ KeepsDemand t (detDone t) := by
  have reacted : KeepsDemand t (seqReact t) := by
    have gap (v : State) : KeepsDemand v (holdGap v) := .ite (.refl v) (.refl v)
    have substate (v : State) : KeepsDemand v (followDemand v) := .ite (.refl v) (.refl v)
    have maximum : KeepsDemand t (startMaximum t) := .ite (.refl t) (.refl t)
    exact .ite ((maximum.trans (gap _)).trans (substate _)) (.refl t)
  have ended := (seqEnd_endsStage (seqReact t)).demand
  have settled : KeepsDemand (seqEnd (seqReact t)) (settle (seqEnd (seqReact t))) := by
    obtain ⟨-, hseq, -⟩ := (measures_places 0 (drain eventFuel (seqEnd (seqReact t)))).frame
    exact (drain_keepsDemand eventFuel _).trans (.of_eq (by rw [settle, hseq]))
  have path : Responds t (settle (seqEnd (seqReact t))) :=
    (Responds.drives ((seqReact_drives t).trans (seqEnd_drives _))).trans (settle_responds _)
  obtain ⟨-, hjds, hdet, -⟩ := path.frame
  exact ⟨hdet, hjds, (reacted.trans ended).trans settled⟩

theorem detDone_judges {g : Det1 → Det1} (h : Judges d g s t) : Judges d g s (detDone t) := by
  obtain ⟨hdet, hjds, hkeep⟩ := detDone_rest t
  exact h.followed hdet hjds hkeep

/-! ### One event, with nothing else waiting for FLT -/

theorem drain_event (e : FltEvent) (n : Nat) (hin : s.flt.inbox = []) (hout : (fltTake e s).flt.inbox = []) :
    drain (n + 1) (toFlt e s) = fltTake e s := by
  have hinbox : (toFlt e s).flt.inbox = [e] := by simp [toFlt, hin]
  have hrest : (toFlt e s).onFlt (fun f => { f with inbox := [] }) = s := by
    show { s with flt := { s.flt with inbox := [] } } = s
    rw [← hin]
  rw [drain, hinbox]
  simp only [hrest]
  exact drain_of_empty n _ hout

theorem holdDetector_toFlt (e : FltEvent) (d : Detector) (s : State) :
    holdDetector d (toFlt e s) = toFlt e (holdDetector d s) := by
  have demand (k : Stage) (t : State) : holdDemand k (toFlt e t) = toFlt e (holdDemand k t) := by
    have held : heldDemand (toFlt e t) k = heldDemand t k := rfl
    unfold holdDemand
    rw [held, apply_ite (toFlt e)]
    rfl
  have fold (l : List Stage) (t : State) :
      l.foldl (fun t k => holdDemand k t) (toFlt e t) = toFlt e (l.foldl (fun t k => holdDemand k t) t) := by
    induction l generalizing t with
    | nil => rfl
    | cons k l ih => rw [List.foldl_cons, demand, ih, List.foldl_cons]
  have sub : substituted (toFlt e s) d = substituted s d := rfl
  unfold holdDetector
  rw [sub, apply_ite (toFlt e), ← fold]
  rfl

/-- What the monitors leave, with nothing waiting for FLT: of SEQ only the demand set may have gained flags, FLT is `F`,
and these reports have been posted. -/
structure Monitored (s : State) (F : Flt) (l : List Posting) (t : State) : Prop where
  uptime : t.uptime = s.uptime
  seq : t.seq = { s.seq with demand := t.seq.demand }
  flt : t.flt = F
  lnk : t.lnk = s.lnk.posted s.uptime l

namespace Monitored

variable {F G : Flt} {l m : List Posting}

theorem refl (s : State) : Monitored s s.flt [] s := ⟨rfl, rfl, rfl, rfl⟩

theorem trans (h1 : Monitored s F l t) (h2 : Monitored t G m u) : Monitored s G (l ++ m) u := by
  refine ⟨h2.uptime.trans h1.uptime, ?_, h2.flt, ?_⟩
  · rw [h2.seq, h1.seq]
  · rw [h2.lnk, h1.lnk, h1.uptime, Lnk.posted_append]

end Monitored

/-- R85: the state that FLT finds when it takes a monitor's event, the event apart. -/
theorem held_frame {v : State} (f : Det1 → Det1) (hv : holdDetector d (onRec d f s) = v) :
    v.uptime = s.uptime ∧ v.flt = s.flt ∧ v.lnk = s.lnk ∧ v.seq = { s.seq with demand := v.seq.demand } ∧
    recOf v d = f (recOf s d) := by
  obtain ⟨hheld, -⟩ := holdDetector_addsDemand d (onRec d f s)
  rw [hv] at hheld
  rw [← recOf_onRec_same d f s, hheld]
  exact ⟨rfl, rfl, rfl, rfl, rfl⟩

/-- R84, R85, log 46: the answer of FLT that a monitor's event gets, and the DETECTOR-STATE report after it. -/
theorem monitor_of_answer {f : Det1 → Det1} {e : FltEvent} {v : State} {F : Flt} {l : List Posting}
    (hv : holdDetector d (onRec d f s) = v) (hinbox : s.flt.inbox = []) (hF : F.inbox = [])
    (h : fltTake e v = { v with flt := F, lnk := v.lnk.posted v.uptime l }) :
    Monitored s F (l ++ [statePosting d (f (recOf s d))]) (monitor d f (toFlt e) s) := by
  obtain ⟨hnow, hflt, hlnk, hseq, hrec⟩ := held_frame f hv
  have hdrain : monitor d f (toFlt e) s = detReport d (fltTake e v) := by
    rw [monitor, holdDetector_toFlt, hv, eventFuel, drain_event e _ (by rw [hflt, hinbox]) (by rw [h]; exact hF)]
  rw [hdrain, h, detReport_eq]
  refine ⟨hnow, hseq, rfl, ?_⟩
  rw [← hrec, ← hnow, ← hlnk, Lnk.posted_append]
  rfl

/-- R84: a condition that arises. -/
theorem monitor_raise {k : FaultKind} (hk : k ∈ detectorKinds) (hinbox : s.flt.inbox = []) (f : Det1 → Det1) :
    ∃ l, l.length ≤ 2 ∧ statePosting d (f (recOf s d)) ∈ l ∧
      Monitored s (record k (.detector d) s).2.flt l (monitor d f (raise k (.detector d)) s) := by
  obtain ⟨v, hv⟩ : ∃ v, holdDetector d (onRec d f s) = v := ⟨_, rfl⟩
  obtain ⟨hnow, hflt, -⟩ := held_frame f hv
  obtain ⟨fields, htake⟩ := takeRaise_detector hk d noDetail v
  rw [record_congr k (.detector d) hflt hnow] at htake
  exact ⟨_, by simp, by simp, monitor_of_answer hv hinbox ((record_eq k (.detector d) s).2.trans hinbox) htake⟩

/-- R84: a condition that ends, outside DARK. -/
theorem monitor_clear (k : FaultKind) (hinbox : s.flt.inbox = []) (hmode : s.flt.mode ≠ .dark) (f : Det1 → Det1) :
    ∃ l, l.length ≤ 2 ∧ statePosting d (f (recOf s d)) ∈ l ∧
      Monitored s (s.flt.cleared k (.detector d)) l (monitor d f (clear k (.detector d)) s) := by
  obtain ⟨v, hv⟩ : ∃ v, holdDetector d (onRec d f s) = v := ⟨_, rfl⟩
  obtain ⟨-, hflt, -⟩ := held_frame f hv
  have htake := takeClear_eq k (.detector d) (s := v) (by rw [hflt]; exact hmode)
  have hin : (s.flt.cleared k (.detector d)).inbox = [] := by rw [Flt.cleared_frame]; exact hinbox
  have hlength := s.flt.clearPostings_length k (.detector d)
  rw [hflt] at htake
  refine ⟨_, ?_, by simp, monitor_of_answer hv hinbox hin htake⟩
  rw [List.length_append, List.length_singleton]
  omega

/-- A monitor's clear whose condition is tested first. -/
theorem monitor_clear_if {p : Prop} [Decidable p] (k : FaultKind) (hinbox : s.flt.inbox = [])
    (hmode : s.flt.mode ≠ .dark) (f : Det1 → Det1) :
    ∃ l, l.length ≤ 2 ∧ (p → statePosting d (f (recOf s d)) ∈ l) ∧
      Monitored s (if p then s.flt.cleared k (.detector d) else s.flt) l
        (if p then monitor d f (clear k (.detector d)) s else s) := by
  split
  next =>
    obtain ⟨l, hlength, hposting, hmonitored⟩ := monitor_clear k hinbox hmode f
    exact ⟨l, hlength, fun _ => hposting, hmonitored⟩
  next h => exact ⟨[], by simp, fun hp => absurd hp h, .refl s⟩

/-- A monitor's raise whose condition is tested first. -/
theorem monitor_raise_if {p : Prop} [Decidable p] {k : FaultKind} (hk : k ∈ detectorKinds) (hinbox : s.flt.inbox = [])
    (f : Det1 → Det1) :
    ∃ l, l.length ≤ 2 ∧ (p → statePosting d (f (recOf s d)) ∈ l) ∧
      Monitored s (if p then (record k (.detector d) s).2.flt else s.flt) l
        (if p then monitor d f (raise k (.detector d)) s else s) := by
  split
  next =>
    obtain ⟨l, hlength, hposting, hmonitored⟩ := monitor_raise hk hinbox f
    exact ⟨l, hlength, fun _ => hposting, hmonitored⟩
  next h => exact ⟨[], by simp, fun hp => absurd hp h, .refl s⟩

/-! ### The end of the command (R30, log 54) -/

/-- SEQ's answer: the timers of R29 to R31, the gap held at 0 where a detector holds it. -/
theorem seqReact_eq (s : State) : ∃ m g b,
    seqReact s = s.onSeq (fun q => { q with maximum := m, gap := g, substate := b }) ∧
    (s.seq.gap = some 0 → g = some 0) ∧ (stageShown s = true → gapHeld s = true → g = some 0) := by
  have maximum (v : State) : ∃ m, startMaximum v = v.onSeq fun q => { q with maximum := m } := by
    unfold startMaximum
    split <;> exact ⟨_, rfl⟩
  have gap (v : State) : ∃ g, holdGap v = v.onSeq (fun q => { q with gap := g }) ∧
      (v.seq.gap = some 0 → g = some 0) ∧ (gapHeld v = true → g = some 0) := by
    unfold holdGap
    split
    next => exact ⟨some 0, rfl, fun _ => rfl, fun _ => rfl⟩
    next hheld => exact ⟨v.seq.gap, rfl, id, fun h => absurd h hheld⟩
  have substate (v : State) : ∃ b, followDemand v = v.onSeq fun q => { q with substate := b } := by
    unfold followDemand
    split <;> exact ⟨_, rfl⟩
  unfold seqReact
  split
  next =>
    obtain ⟨m, hm⟩ := maximum s
    obtain ⟨g, hg, hkept, hheld⟩ := gap (startMaximum s)
    obtain ⟨b, hb⟩ := substate (holdGap (startMaximum s))
    rw [hm] at hkept hheld
    exact ⟨m, g, b, by rw [hb, hg, hm]; rfl, hkept, fun _ h => hheld h⟩
  next hshown => exact ⟨s.seq.maximum, s.seq.gap, s.seq.substate, rfl, id, fun h => absurd h hshown⟩

/-- What the end of a detector's command leaves, with nothing waiting for FLT. -/
structure Done (s t : State) : Prop where
  flt : t.flt = s.flt
  demand : KeepsDemand s t
  gapKept : s.seq.gap = some 0 → t.seq.gap = some 0
  gapHeld : stageShown s = true → gapHeld s = true → t.seq.gap = some 0
  reports : ∃ l : List Posting, l.length ≤ 1 ∧ t.lnk.reports = (s.lnk.posted s.uptime l).reports

theorem detDone_done (hinbox : s.flt.inbox = []) : Done s (detDone s) := by
  obtain ⟨m, g, b, hreact, hkept, hheld⟩ := seqReact_eq s
  obtain ⟨hflt, hgap, hdemand, l, hlength, hlnk⟩ := seqEnd_endsStage (seqReact s)
  rw [hreact] at hflt hgap hdemand hlnk
  have places : Places (seqEnd (seqReact s)) (settle (seqEnd (seqReact s))) :=
    settle_places (by rw [hreact, hflt]; exact hinbox)
  obtain ⟨-, hseq', -, -, hflt', hlnk', -⟩ := places.frame
  have hreports : (detDone s).lnk.reports = (settle (seqEnd (seqReact s))).lnk.reports := by
    show (settle (seqEnd (seqReact s))).lnk.start.reports = _
    rw [Lnk.start_frame]
  have hgap' : (detDone s).seq.gap = g := by
    show (settle (seqEnd (seqReact s))).seq.gap = g
    rw [hseq', hreact, hgap]
    rfl
  refine ⟨?flt, ?demand, fun h => hgap'.trans (hkept h), fun h h' => hgap'.trans (hheld h h'), l, hlength, ?reports⟩
  case flt => exact hflt'.trans (by rw [hreact, hflt]; rfl)
  case demand =>
    refine .trans (t := seqEnd (seqReact s)) ?_ (.of_eq (congrArg Seq.demand hseq'))
    rw [hreact]
    exact .afterSeq _ rfl hdemand
  case reports => rw [hreports, hlnk', hreact, hlnk]; rfl

theorem reported_of_uptime {k : ReportKind} {j : RSubject} {fields : List Byte} {v : State}
    (h : Reported s u k j fields) (hnow : s.uptime = v.uptime) : Reported v u k j fields := by
  unfold Reported at *
  rwa [← hnow]

/-- The reports of the monitors, and at most one of SEQ's, all find room. -/
theorem Done.reported {F : Flt} {l : List Posting} {x : Det1} (h : Done t u) (hm : Monitored s F l t)
    (hx : statePosting d x ∈ l) (hkind : s.lnk.kinds.get 8 = true)
    (hroom : s.lnk.reports.length + (l.length + 1) ≤ 32) :
    Reported s u .detectorState (.detector d) (detectorStateFields x) := by
  obtain ⟨m, hlength, hreports⟩ := h.reports
  refine reported_of_posted (l := l ++ m) (List.mem_append_left _ hx) hkind ?_ ?_
  · rw [List.length_append]; omega
  · rw [hreports, hm.lnk, hm.uptime, Lnk.posted_append]

end Sys2Proof.Machine
end

section
/-! PROOF. STUCK-ON, SILENT and the end of a chatter interval (R81 to R85), and `Obligations.DetectorMonitors` from
them. -/

namespace Sys2Proof.Machine

variable {s t u : State} {d : Detector}

/-! ### A condition that arises (R81, R82, R85) -/

theorem takeRaise_flt {k : FaultKind} (hk : k ∈ detectorKinds) (d : Detector) (x : Byte) (s : State) :
    (takeRaise k (.detector d) x s).flt = (record k (.detector d) s).2.flt := by
  obtain ⟨_, h⟩ := takeRaise_detector hk d x s
  rw [h]

theorem stageShown_iff : stageShown s = true ↔ s.seq.state = .stage ∨ s.seq.state = .commit := by
  simp [stageShown]

theorem gapHeld_of_substituted {k : Stage} (hcurrent : s.seq.current = some k) (hsub : substituted s d = true)
    (hextend : (s.jds.detector.get d).extend.get k = true) : gapHeld s = true := by
  have hserved : s.jds.served d = true := by
    rw [substituted, Bool.and_eq_true] at hsub
    exact hsub.1
  rw [gapHeld, hcurrent, Option.any_some, List.any_eq_true]
  exact ⟨d, mem_allFin d, by rw [hserved, hextend, hsub, Bool.or_true]; rfl⟩

/-- R30, R81, R82, R84, R85: with nothing waiting, a condition that arises raises its fault, holds the demands of its
detector and the gap of a stage that it extends, and is reported. -/
theorem detDone_monitor_raise {k : FaultKind} {f : Det1 → Det1} (hk : k ∈ detectorKinds)
    (hserved : s.jds.served d = true) (hfault : (f (recOf s d)).fault ≠ .none) (hinbox : s.flt.inbox = [])
    (ht : t = detDone (monitor d f (raise k (.detector d)) s)) :
    t.flt = (takeRaise k (.detector d) 0xFF s).flt ∧
    (∀ i, (s.jds.detector.get d).demand.get i = true → s.seq.current ≠ some i → t.seq.demand.get i = true) ∧
    (∀ i, s.seq.state = .stage ∨ s.seq.state = .commit → s.seq.current = some i →
      (s.jds.detector.get d).extend.get i = true → t.seq.gap = some 0) ∧
    (s.lnk.kinds.get 8 = true → s.lnk.reports.length ≤ 29 →
      Reported s t .detectorState (.detector d) (detectorStateFields (f (recOf s d)))) := by
  obtain ⟨l, hlength, hposting, hmonitored⟩ := monitor_raise (d := d) hk hinbox f
  have judged : Judges d f s (monitor d f (raise k (.detector d)) s) := monitor_judges d f _ s
  have holds (i : Stage) (hi : (s.jds.detector.get d).demand.get i = true) (hcurrent : s.seq.current ≠ some i) :
      (monitor d f (raise k (.detector d)) s).seq.demand.get i = true := monitor_holds _ hserved hfault hi hcurrent
  generalize monitor d f (raise k (.detector d)) s = v at *
  have closing : Done v t := ht ▸ detDone_done (by rw [hmonitored.flt, (record_eq k (.detector d) s).2, hinbox])
  refine ⟨?flt, fun i hi hcurrent => closing.demand i (holds i hi hcurrent), ?gap, fun hkind hroom => ?reports⟩
  case flt => rw [takeRaise_flt hk, closing.flt, hmonitored.flt]
  case gap =>
    intro i hshown hcurrent hextend
    have sub : substituted v d = true := by
      have hrec : v.det.record.get d = f (recOf s d) := judged.record_same
      rw [substituted, hrec, judged.jds, hserved, decide_eq_true hfault]
      rfl
    exact closing.gapHeld (stageShown_iff.mpr (by rw [hmonitored.seq]; exact hshown))
      (gapHeld_of_substituted (k := i) (by rw [hmonitored.seq]; exact hcurrent) sub (by rw [judged.jds]; exact hextend))
  case reports => exact closing.reported hmonitored hposting hkind (by omega)

theorem detectorStuckOn_of_due {x : Stamp} (hserved : s.jds.served d = true) (hactive : (recOf s d).active = true)
    (hstuck : (recOf s d).stuckOn = false) (hsince : (recOf s d).activeSince = some x)
    (hdue : (s.jds.detector.get d).stuckLimit * 60000 ≤ x.elapsed) : exec (.detectorStuckOn d) s =
      .next (detDone (monitor d (fun x => { x with stuckOn := true }) (raise .detectorStuckOn (.detector d)) s)) :=
  if_pos (by simp [stuckOnDue, minutes, hserved, hactive, hstuck, hsince, hdue])

theorem detectorSilent_of_due {x : Stamp} (hkind : s.jds.detKind d = .presence) (hsilent : (recOf s d).silent = false)
    (hsince : (recOf s d).silentSince = some x)
    (hdue : (s.jds.detector.get d).silentLimit * 60000 ≤ x.elapsed) : exec (.detectorSilent d) s =
      .next (detDone (monitor d (fun x => { x with silent := true }) (raise .detectorSilent (.detector d)) s)) :=
  if_pos (by simp [silentDue, minutes, hkind, hsilent, hsince, hdue])

theorem Det1.fault_ne_none_of_silent {x : Det1} (h : x.silent = true) : x.fault ≠ .none := by
  rw [Det1.fault, if_pos h]
  split
  · decide
  · split <;> decide

/-! ### One detector at the end of an interval (R83) -/

/-- R83: the chatter condition ends at the sixtieth quiet interval. -/
def Det1.quietened (x : Det1) : Det1 :=
  if x.chatter && x.quiet = 60 then { x with chatter := false, quiet := 0 } else x

/-- R83: the record of a detector, served or not, after an interval's end. -/
def Det1.afterInterval (served : Bool) (x : Det1) : Det1 := if served then x.intervalEnd.quietened else x

/-- R83: the chatter condition of this detector ends at this interval's end. -/
def endsChatter (s : State) (d : Detector) : Bool :=
  s.jds.served d && ((recOf s d).intervalEnd.chatter && (recOf s d).intervalEnd.quiet = 60)

theorem endsChatter_iff : endsChatter s d = true ↔ s.jds.served d = true ∧ (recOf s d).activations ≤ 8 ∧
    (recOf s d).chatter = true ∧ 59 ≤ (recOf s d).quiet := by
  have quiet : min ((recOf s d).quiet + 1) 60 = 60 ↔ 59 ≤ (recOf s d).quiet := by omega
  by_cases hcount : (recOf s d).activations ≤ 8
  · simp [endsChatter, Det1.intervalEnd, hcount, quiet]
  · simp [endsChatter, Det1.intervalEnd, hcount]

theorem Det1.afterInterval_served (x : Det1) : (x.afterInterval true).activations = 0 ∧
    (x.activations ≤ 8 → x.chatter = true → x.quiet + 1 = 60 →
      (x.afterInterval true).chatter = false ∧ (x.afterInterval true).quiet = 0) ∧
    (x.activations ≤ 8 → x.quiet + 1 < 60 →
      (x.afterInterval true).chatter = x.chatter ∧ (x.afterInterval true).quiet = x.quiet + 1) ∧
    (8 < x.activations → (x.afterInterval true).chatter = x.chatter ∧ (x.afterInterval true).quiet = 0) := by
  rw [Det1.afterInterval, if_pos rfl]
  refine ⟨?_, fun hcount hchatter hquiet => ?_, fun hcount hquiet => ?_, fun hcount => ?_⟩
  · unfold Det1.quietened
    split <;> rfl
  · simp [Det1.quietened, Det1.intervalEnd, hcount, hchatter, hquiet]
  · have hne : min (x.quiet + 1) 60 = x.quiet + 1 ∧ x.quiet ≠ 59 := by omega
    simp [Det1.quietened, Det1.intervalEnd, hcount, hne]
  · have hnot : ¬x.activations ≤ 8 := by omega
    simp [Det1.quietened, Det1.intervalEnd, hnot]

theorem intervalEnd_served (h : s.jds.served d = true) : intervalEnd d s =
    if endsChatter s d = true then
      monitor d (fun x => { x with chatter := false, quiet := 0 }) (clear .detectorChatter (.detector d))
        (onRec d Det1.intervalEnd s)
    else onRec d Det1.intervalEnd s := by
  rw [intervalEnd, if_pos h]
  simp only [recOf_onRec_same, endsChatter, h, Bool.true_and]

theorem intervalEnd_judges (d : Detector) (s : State) :
    Judges d (Det1.afterInterval (s.jds.served d)) s (intervalEnd d s) := by
  cases hserved : s.jds.served d with
  | false =>
    rw [intervalEnd, if_neg (by simp [hserved])]
    exact ⟨by rw [onRec_eq_self rfl], rfl, .refl s⟩
  | true =>
    rw [intervalEnd_served hserved]
    refine (Judges.onRec d Det1.intervalEnd s).trans (g := Det1.quietened)
      (monitor_judges_if _ (fun h => ?_) fun h => ?_)
    · simp only [endsChatter, hserved, Bool.true_and] at h
      rw [recOf_onRec_same, Det1.quietened, if_pos h]
    · simp only [endsChatter, hserved, Bool.true_and] at h
      rw [recOf_onRec_same, Det1.quietened, if_neg h]

/-- With nothing waiting and outside DARK, FLT takes the clear of a condition that ends, and its report follows. -/
theorem intervalEnd_monitored (d : Detector) (hinbox : s.flt.inbox = []) (hmode : s.flt.mode ≠ .dark) :
    if endsChatter s d = true then ∃ l, l.length ≤ 2 ∧ statePosting d ((recOf s d).afterInterval true) ∈ l ∧
      Monitored s (s.flt.cleared .detectorChatter (.detector d)) l (intervalEnd d s)
    else Monitored s s.flt [] (intervalEnd d s) := by
  cases hserved : s.jds.served d with
  | false =>
    rw [if_neg (by simp [endsChatter, hserved]), intervalEnd, if_neg (by simp [hserved])]
    exact .refl s
  | true =>
    rw [intervalEnd_served hserved]
    split
    next h =>
      obtain ⟨l, hlength, hposting, hnow, hseq, hflt, hlnk⟩ := monitor_clear (s := onRec d Det1.intervalEnd s) (d := d)
        .detectorChatter hinbox hmode fun x => { x with chatter := false, quiet := 0 }
      refine ⟨l, hlength, ?_, hnow, hseq, hflt, hlnk⟩
      simp only [endsChatter, hserved, Bool.true_and] at h
      rw [recOf_onRec_same] at hposting
      rwa [Det1.afterInterval, if_pos rfl, Det1.quietened, if_pos h]
    next => exact ⟨rfl, rfl, rfl, rfl⟩

/-! ### Every detector at the end of an interval (R83, log 53) -/

/-- R83: FLT after the clears of these detectors' chatter. -/
def Flt.chatterCleared (l : List Detector) (f : Flt) : Flt :=
  l.foldl (fun f d => f.cleared .detectorChatter (.detector d)) f

theorem Flt.chatterCleared_frame (l : List Detector) (f : Flt) : f.chatterCleared l =
    { f with list := (f.chatterCleared l).list, output := (f.chatterCleared l).output } := by
  induction l generalizing f with
  | nil => rfl
  | cons d l ih =>
    have first := f.cleared_frame .detectorChatter (.detector d)
    have hcons : f.chatterCleared (d :: l) = (f.cleared .detectorChatter (.detector d)).chatterCleared l := rfl
    rw [hcons]
    generalize f.cleared .detectorChatter (.detector d) = g at first
    rw [ih, first]

theorem Flt.chatterCleared_length (l : List Detector) (f : Flt) :
    (f.chatterCleared l).list.length = f.list.length := by
  induction l generalizing f with
  | nil => rfl
  | cons d l ih => exact (ih _).trans (Flt.cleared_length _ _ f)

theorem Flt.chatterCleared_getElem? {l : List Detector} {f : Flt} {i : Nat} {e : FEntry} (h : f.list[i]? = some e)
    (hne : ∀ d ∈ l, ¬(e.kind = .detectorChatter ∧ e.subject = .detector d)) :
    (f.chatterCleared l).list[i]? = some e := by
  induction l generalizing f with
  | nil => exact h
  | cons d l ih =>
    exact ih (Flt.cleared_getElem? h (hne d List.mem_cons_self)) fun e he => hne e (List.mem_cons_of_mem d he)

theorem Flt.Cleared.chatterCleared {k : FaultKind} {j : Subject} {f : Flt} (h : f.Cleared k j) (l : List Detector) :
    (f.chatterCleared l).Cleared k j := by
  induction l generalizing f with
  | nil => exact h
  | cons d l ih => exact ih (h.cleared _ _)

theorem Flt.chatterCleared_cleared {l : List Detector} (hd : d ∈ l) (f : Flt) :
    (f.chatterCleared l).Cleared .detectorChatter (.detector d) := by
  induction l generalizing f with
  | nil => exact absurd hd (by simp)
  | cons e l ih =>
    rcases List.mem_cons.mp hd with rfl | hd
    · exact (Flt.cleared_cleared _ _ f).chatterCleared l
    · exact ih hd _

/-- The records after the interval's end, whatever waits for FLT. -/
theorem forEach_intervalEnd_record (s : State) : (forEach intervalEnd s).jds = s.jds ∧
    ∀ d, recOf (forEach intervalEnd s) d = (recOf s d).afterInterval (s.jds.served d) := by
  have each (l : List Detector) : ∀ t : State, t.jds = s.jds →
      (l.foldl (fun t d => intervalEnd d t) t).jds = s.jds ∧
      (l.foldl (fun t d => intervalEnd d t) t).det.record =
        l.foldl (fun y d => y.modify d (Det1.afterInterval (s.jds.served d))) t.det.record := by
    induction l with
    | nil => exact fun t h => ⟨h, rfl⟩
    | cons d l ih =>
      intro t h
      obtain ⟨hdet, hjds, -⟩ := intervalEnd_judges d t
      obtain ⟨hjds', hrecord⟩ := ih (intervalEnd d t) (hjds.trans h)
      rw [hdet, h] at hrecord
      exact ⟨hjds', hrecord⟩
  obtain ⟨hjds, hrecord⟩ := each (allFin 24) s rfl
  refine ⟨hjds, fun d => ?_⟩
  rw [recOf, forEach, hrecord, Tab.allFin_foldl_modify_each, Tab.get_ofFn, recOf]

/-- One detector after the other: FLT takes the clears of the conditions that end, each reported. -/
theorem foldl_intervalEnd_monitored {l : List Detector} (hl : l.Nodup) (hrec : ∀ d ∈ l, recOf t d = recOf s d)
    (hjds : t.jds = s.jds) (hinbox : t.flt.inbox = []) (hmode : t.flt.mode ≠ .dark) :
    ∃ L, L.length ≤ 2 * (l.filter (endsChatter s)).length ∧
      (∀ d ∈ l, endsChatter s d = true → statePosting d ((recOf s d).afterInterval true) ∈ L) ∧
      Monitored t (t.flt.chatterCleared (l.filter (endsChatter s))) L (l.foldl (fun t d => intervalEnd d t) t) := by
  induction l generalizing t with
  | nil => exact ⟨[], by simp, by simp, .refl t⟩
  | cons d l ih =>
    obtain ⟨hd, hl⟩ := List.nodup_cons.mp hl
    have same : endsChatter t d = endsChatter s d := by
      rw [endsChatter, hrec d List.mem_cons_self, hjds, endsChatter]
    have judged := intervalEnd_judges d t
    have first := intervalEnd_monitored d hinbox hmode
    rw [same, hrec d List.mem_cons_self] at first
    have rest {F : Flt} (hF : (intervalEnd d t).flt = F) (hin : F.inbox = []) (hm : F.mode ≠ .dark) :=
      ih (t := intervalEnd d t) hl
        (fun e he => (judged.record_ne e fun h => hd (h ▸ he)).trans (hrec e (List.mem_cons_of_mem d he)))
        (judged.jds.trans hjds) (by rw [hF]; exact hin) (by rw [hF]; exact hm)
    cases hends : endsChatter s d with
    | false =>
      rw [hends] at first
      simp only [Bool.false_eq_true, if_false] at first
      obtain ⟨L, hlength, hpostings, hmonitored⟩ := rest first.flt hinbox hmode
      rw [first.flt] at hmonitored
      refine ⟨L, by simpa [hends] using hlength, fun e he hon => ?_, by simpa [hends] using first.trans hmonitored⟩
      rcases List.mem_cons.mp he with rfl | he
      · simp [hends] at hon
      · exact hpostings e he hon
    | true =>
      rw [hends] at first
      simp only [if_true] at first
      obtain ⟨m, hm, hposting, first⟩ := first
      have hframe := t.flt.cleared_frame .detectorChatter (.detector d)
      obtain ⟨L, hlength, hpostings, hmonitored⟩ := rest first.flt (by rw [hframe]; exact hinbox)
        (by rw [hframe]; exact hmode)
      rw [first.flt] at hmonitored
      refine ⟨m ++ L, ?_, fun e he hon => ?_, ?_⟩
      · rw [List.filter_cons_of_pos hends, List.length_cons, List.length_append]; omega
      · rcases List.mem_cons.mp he with rfl | he
        · exact List.mem_append_left _ hposting
        · exact List.mem_append_right _ (hpostings e he hon)
      · rw [List.filter_cons_of_pos hends]
        exact first.trans hmonitored

theorem forEach_intervalEnd_monitored (hinbox : s.flt.inbox = []) (hmode : s.flt.mode ≠ .dark) :
    ∃ L, L.length ≤ 2 * ((allFin 24).filter (endsChatter s)).length ∧
      (∀ d, endsChatter s d = true → statePosting d ((recOf s d).afterInterval true) ∈ L) ∧
      Monitored s (s.flt.chatterCleared ((allFin 24).filter (endsChatter s))) L (forEach intervalEnd s) := by
  obtain ⟨L, hlength, hpostings, hmonitored⟩ :=
    foldl_intervalEnd_monitored (s := s) (l := allFin 24) (List.nodup_finRange 24) (fun _ _ => rfl) rfl hinbox hmode
  exact ⟨L, hlength, fun d => hpostings d (mem_allFin d), hmonitored⟩

theorem filter_endsChatter_of_alone (hd : endsChatter s d = true) (halone : ∀ e, e ≠ d → ¬endsChatter s e = true) :
    (allFin 24).filter (endsChatter s) = [d] := by
  have alone : endsChatter s = fun e => e == d := by
    funext e
    by_cases he : e = d
    · rw [he, hd, beq_self_eq_true]
    · rw [Bool.eq_false_iff.mpr (halone e he), beq_eq_false_iff_ne.mpr he]
  have once : (allFin 24).count d = 1 := List.count_eq_one_of_mem (List.nodup_finRange 24) (mem_allFin d)
  rw [alone, List.filter_beq, once]
  rfl

theorem recOf_detDone (t : State) (d : Detector) : recOf (detDone t) d = recOf t d :=
  congrArg (fun x : Det => x.record.get d) (detDone_rest t).1

/-- R83, log 53: with nothing waiting and outside DARK, FLT after the interval's end, and the report of a condition that
ends alone. -/
theorem forEach_intervalEnd_answers (hinbox : s.flt.inbox = []) (hmode : s.flt.mode ≠ .dark)
    (ht : t = detDone (forEach intervalEnd s)) :
    t.flt = s.flt.chatterCleared ((allFin 24).filter (endsChatter s)) ∧
    (∀ d, (allFin 24).filter (endsChatter s) = [d] → s.lnk.kinds.get 8 = true → s.lnk.reports.length ≤ 29 →
      Reported s t .detectorState (.detector d) (detectorStateFields ((recOf s d).afterInterval true))) := by
  obtain ⟨L, hlength, hpostings, hmonitored⟩ := forEach_intervalEnd_monitored hinbox hmode
  have hin : (forEach intervalEnd s).flt.inbox = [] := by rw [hmonitored.flt, Flt.chatterCleared_frame]; exact hinbox
  have closing : Done (forEach intervalEnd s) t := ht ▸ detDone_done hin
  refine ⟨closing.flt.trans hmonitored.flt, fun d only hkind hroom => ?_⟩
  have hends : d ∈ (allFin 24).filter (endsChatter s) := by rw [only]; exact List.mem_singleton_self d
  rw [only, List.length_singleton] at hlength
  exact closing.reported hmonitored (hpostings d (List.mem_filter.mp hends).2) hkind (by omega)

/-- R83: the next interval begun. -/
def nextInterval (s : State) : State := s.onDet fun x => { x with intervalMs := x.intervalMs - 1000 }

theorem nextInterval_frame (s : State) : (nextInterval s).jds = s.jds ∧ (nextInterval s).det.record = s.det.record ∧
    (nextInterval s).flt = s.flt ∧ (nextInterval s).lnk = s.lnk ∧ (nextInterval s).uptime = s.uptime := by
  simp [nextInterval]

/-- R83: an interval of 1,000 ms has ended. -/
theorem chatterIntervalEnd_of_due (hdesc : s.jds.desc = .accepted) (hdue : 1000 ≤ s.det.intervalMs) :
    exec .chatterIntervalEnd s = .next (detDone (forEach intervalEnd (nextInterval s))) :=
  if_pos (by simp [Jds.accepted, hdesc, hdue])

end Sys2Proof.Machine

namespace Sys2Proof.Proofs

open Sys2Proof Sys2Proof.Machine

/-- Settles O44: a condition that arises by `detDone_monitor_raise`; the interval's end detector by detector, its
records by `forEach_intervalEnd_record` and its clears and reports by `forEach_intervalEnd_monitored`. -/
theorem detectorMonitors : Obligations.DetectorMonitors := by
  unfold Obligations.DetectorMonitors
  refine ⟨?stuckOn, ?silent, ?interval⟩
  case stuckOn =>
    intro d x s hserved hactive hstuck hsince hdue
    have judged := detDone_judges (monitor_judges d (fun x => { x with stuckOn := true })
      (.raise .detectorStuckOn (.detector d) noDetail) s)
    have hfault : ({ recOf s d with stuckOn := true } : Det1).fault = .stuckOn := rfl
    refine ⟨_, detectorStuckOn_of_due hserved hactive hstuck hsince hdue, judged.record_same,
      (congrArg Det1.fault judged.record_same).trans hfault, judged.record_ne, judged.jds, fun hinbox => ?_⟩
    have raised := detDone_monitor_raise (k := .detectorStuckOn) (f := fun x => { x with stuckOn := true }) (by decide)
      hserved (fun h => by rw [hfault] at h; cases h) hinbox rfl
    rw [← judged.record_same] at raised
    exact raised
  case silent =>
    intro d x s hkind hsilent hsince hdue
    have judged := detDone_judges (monitor_judges d (fun x => { x with silent := true })
      (.raise .detectorSilent (.detector d) noDetail) s)
    have hserved : s.jds.served d = true := by simp [Jds.served, hkind]
    have hfault : ({ recOf s d with silent := true } : Det1).fault ≠ .none := Det1.fault_ne_none_of_silent rfl
    refine ⟨_, detectorSilent_of_due hkind hsilent hsince hdue, judged.record_same, judged.record_ne, judged.jds,
      fun hinbox => ?_⟩
    have raised := detDone_monitor_raise (k := .detectorSilent) (f := fun x => { x with silent := true }) (by decide)
      hserved hfault hinbox rfl
    rw [← judged.record_same] at raised
    exact raised
  case interval =>
    intro s hdesc hdue ends
    have ends_iff (d : Detector) : ends d ↔ endsChatter s d = true := endsChatter_iff.symm
    have hexec := chatterIntervalEnd_of_due hdesc hdue
    obtain ⟨hvjds, hvdet, hvflt, hvlnk, hvnow⟩ := nextInterval_frame s
    generalize nextInterval s = v at *
    have hvrec (d : Detector) : recOf v d = recOf s d := congrArg (fun x => x.get d) hvdet
    obtain ⟨hjds, hrecord⟩ := forEach_intervalEnd_record v
    obtain ⟨-, hjds', -⟩ := detDone_rest (forEach intervalEnd v)
    have record (d : Detector) : recOf (detDone (forEach intervalEnd v)) d =
        (recOf s d).afterInterval (s.jds.served d) := by
      rw [recOf_detDone, hrecord, hvjds, hvrec]
    refine ⟨_, hexec, ?jds, fun d hserved => ?served, fun d hserved => ?unserved,
      fun hinbox hmode => ?answers⟩
    case jds => rw [hjds', hjds, hvjds]
    case served =>
      rw [record, hserved]
      exact Det1.afterInterval_served _
    case unserved =>
      rw [record, hserved]
      rfl
    case answers =>
      have hends : endsChatter v = endsChatter s := by
        funext d
        rw [endsChatter, hvjds, hvrec, endsChatter]
      obtain ⟨hflt, hreports⟩ := forEach_intervalEnd_answers (s := v) (by rw [hvflt]; exact hinbox)
        (by rw [hvflt]; exact hmode) rfl
      rw [hends, hvflt] at hflt
      rw [hends] at hreports
      rw [hflt]
      refine ⟨Flt.chatterCleared_frame _ _, Flt.chatterCleared_length _ _, fun d hd => ?cleared, fun i e he hne => ?kept,
        fun d hd halone => ?alone⟩
      case cleared => exact Flt.chatterCleared_cleared (List.mem_filter.mpr ⟨mem_allFin d, (ends_iff d).mp hd⟩) _
      case kept => exact Flt.chatterCleared_getElem? he fun d hd => hne d ((ends_iff d).mpr (List.mem_filter.mp hd).2)
      case alone =>
        have only := filter_endsChatter_of_alone ((ends_iff d).mp hd) fun e he => mt (ends_iff e).mpr (halone e he)
        refine ⟨by rw [only, takeClear_eq _ _ hmode]; rfl, fun hkind hroom => ?_⟩
        have hreported := hreports d only (by rw [hvlnk]; exact hkind) (by rw [hvlnk]; exact hroom)
        obtain ⟨hserved, -⟩ := hd
        rw [record, hserved, ← hvrec]
        exact reported_of_uptime hreported hvnow

end Sys2Proof.Proofs
end

section
/-! PROOF. A detector's input, its accepted activations and its accepted releases (R75 to R79, R81 to R84), and
`Obligations.DetectorInputsAndAcceptedChanges` from them. -/

namespace Sys2Proof.Machine

variable {s t u : State} {d : Detector}

/-! ### The monitors of an accepted change (R81, R82, R83) -/

/-- R82: the record with the silent condition ended. -/
def Det1.heard (x : Det1) : Det1 := { x with silent := false }

/-- R81: the record with the stuck-on condition ended. -/
def Det1.unstuck (x : Det1) : Det1 := { x with stuckOn := false }

/-- R83: the record with the chatter condition judged after an activation. -/
def Det1.counted (x : Det1) : Det1 := { x with chatter := x.chatter || decide (x.activations = 9) }

theorem endSilent_judges (d : Detector) (s : State) : Judges d Det1.heard s (endSilent d s) :=
  monitor_judges_if _ (fun _ => rfl) fun h => by
    have hsilent : (recOf s d).silent = false := by simpa using h
    rw [Det1.heard, ← hsilent]

theorem endStuckOn_judges (d : Detector) (s : State) : Judges d Det1.unstuck s (endStuckOn d s) :=
  monitor_judges_if _ (fun _ => rfl) fun h => by
    have hstuck : (recOf s d).stuckOn = false := by simpa using h
    rw [Det1.unstuck, ← hstuck]

theorem judgeChatter_eq (d : Detector) (s : State) : judgeChatter d s =
    if (recOf s d).activations = 9 ∧ (recOf s d).chatter = false then
      monitor d (fun x => { x with chatter := true }) (raise .detectorChatter (.detector d)) s
    else s := by
  simp [judgeChatter]

theorem judgeChatter_judges (d : Detector) (s : State) : Judges d Det1.counted s (judgeChatter d s) := by
  rw [judgeChatter_eq]
  refine monitor_judges_if _ (fun h => ?_) fun h => ?_
  · rw [Det1.counted, h.1, h.2]
    rfl
  · have same : ((recOf s d).chatter || decide ((recOf s d).activations = 9)) = (recOf s d).chatter := by
      rw [Bool.or_eq_left_iff_imp, decide_eq_true_eq]
      exact fun hcount => Bool.eq_true_of_not_eq_false fun hchatter => h ⟨hcount, hchatter⟩
    rw [Det1.counted, same]

/-! ### An accepted activation (R76, R77) -/

theorem shownStage_eq (s : State) :
    shownStage s = if s.seq.state = .stage ∨ s.seq.state = .commit then s.seq.current else none := by
  simp only [shownStage, stageShown_iff]

/-- The state after the record and the postings of an activation, before the monitors judge it. -/
def activatedAt (d : Detector) (s : State) : State := postings d (onRec d (Det1.activated s (s.jds.detKind d)) s)

theorem activation_eq (d : Detector) (s : State) :
    activation d s = detDone (judgeChatter d (endSilent d (activatedAt d s))) := rfl

theorem activatedAt_posts (d : Detector) (s : State) :
    Posts d (onRec d (Det1.activated s (s.jds.detKind d)) s) (activatedAt d s) := postings_posts d _

theorem activatedAt_judges (d : Detector) (s : State) :
    Judges d (Det1.activated s (s.jds.detKind d)) s (activatedAt d s) := by
  obtain ⟨heq, hkeep, -⟩ := activatedAt_posts d s
  exact (Judges.onRec d _ s).followed (by rw [heq]) (by rw [heq]) hkeep

/-- R76, R82, R83: the records after an activation, whatever waits for FLT. -/
theorem activation_judges (d : Detector) (s : State) :
    Judges d (fun x => (x.activated s (s.jds.detKind d)).heard.counted) s (activation d s) :=
  detDone_judges <| ((activatedAt_judges d s).trans (endSilent_judges d _)).trans (judgeChatter_judges d _)

/-- R77: the demand postings. -/
theorem activation_demand {k : Stage} (hk : (s.jds.detector.get d).demand.get k = true)
    (hshown : ¬((s.seq.state = .stage ∨ s.seq.state = .commit) ∧ s.seq.current = some k)) :
    (activation d s).seq.demand.get k = true := by
  have posted : (activatedAt d s).seq.demand.get k = true :=
    (activatedAt_posts d s).demand k hk (by rw [stageShown_iff]; exact hshown)
  rw [activation_eq]
  generalize activatedAt d s = v at *
  have judged := (endSilent_judges d v).demand.trans (judgeChatter_judges d _).demand
  obtain ⟨-, -, closing⟩ := detDone_rest (judgeChatter d (endSilent d v))
  exact closing k (judged k posted)

theorem satInc8_eq_nine {n : Nat} : satInc8 n = 9 ↔ n = 8 := by unfold satInc8; omega

/-- R82: FLT after an activation of a detector with this record, its silent condition ended. -/
def Flt.heardFrom (d : Detector) (x : Det1) (f : Flt) : Flt :=
  if x.silent = true then f.cleared .detectorSilent (.detector d) else f

theorem Flt.heardFrom_inbox (d : Detector) (x : Det1) (f : Flt) : (f.heardFrom d x).inbox = f.inbox := by
  unfold Flt.heardFrom
  split
  · rw [Flt.cleared_frame]
  · rfl

/-- R82 to R84, log 46: with nothing waiting and outside DARK, FLT takes the clear of a silent condition, then the raise
of a chatter condition, and each is reported. -/
theorem activation_monitored (d : Detector) (hinbox : s.flt.inbox = []) (hmode : s.flt.mode ≠ .dark) {heard : Flt}
    (hheard : heard = s.flt.heardFrom d (recOf s d)) : ∃ L F, L.length ≤ 4 ∧ F.inbox = [] ∧
      F = (if (recOf s d).activations = 9 ∧ (recOf s d).chatter = false then
        (record .detectorChatter (.detector d) { s with flt := heard }).2.flt else heard) ∧
      ((recOf s d).silent = true → statePosting d (recOf s d).heard ∈ L) ∧
      ((recOf s d).activations = 9 ∧ (recOf s d).chatter = false →
        statePosting d { (recOf s d).heard with chatter := true } ∈ L) ∧
      Monitored s F L (judgeChatter d (endSilent d s)) := by
  have hin : heard.inbox = [] := by rw [hheard, Flt.heardFrom_inbox, hinbox]
  obtain ⟨l, hl, hsilent, first⟩ := monitor_clear_if (s := s) (d := d) (p := (recOf s d).silent = true)
    .detectorSilent hinbox hmode Det1.heard
  change Monitored s (s.flt.heardFrom d (recOf s d)) l (endSilent d s) at first
  rw [← hheard] at first
  obtain ⟨m, hm, hchatter, second⟩ := monitor_raise_if (s := endSilent d s) (d := d)
    (p := (recOf (endSilent d s) d).activations = 9 ∧ (recOf (endSilent d s) d).chatter = false)
    (k := .detectorChatter) (by decide) (by rw [first.flt]; exact hin) fun x => { x with chatter := true }
  rw [← judgeChatter_eq, record_congr (s := { s with flt := heard }) _ _ first.flt first.uptime, first.flt] at second
  rw [(endSilent_judges d s).record_same] at hchatter second
  refine ⟨l ++ m, _, by rw [List.length_append]; omega, ?_, rfl, fun h => List.mem_append_left m (hsilent h),
    fun h => List.mem_append_right l (hchatter h), first.trans second⟩
  split
  · rw [(record_eq _ _ _).2, hin]
  · exact hin

/-- R77, R82 to R84, R30, logs 46 and 54: with nothing waiting and outside DARK, the gap, FLT and the reports after an
activation. -/
theorem activation_answers (d : Detector) (hinbox : s.flt.inbox = []) (hmode : s.flt.mode ≠ .dark) {heard : Flt}
    (hheard : heard = s.flt.heardFrom d (recOf s d)) :
    (∀ k, shownStage s = some k → (s.jds.detector.get d).extend.get k = true →
      (activation d s).seq.gap = some 0) ∧
    (activation d s).flt = (if (recOf s d).chatter = false ∧ (recOf s d).activations = 8 then
      (record .detectorChatter (.detector d) { s with flt := heard }).2.flt else heard) ∧
    (s.lnk.kinds.get 8 = true → s.lnk.reports.length ≤ 27 →
      ((recOf s d).silent = true → Reported s (activation d s) .detectorState (.detector d)
        (detectorStateFields { recOf s d with active := true, silent := false })) ∧
      ((recOf s d).chatter = false ∧ (recOf s d).activations = 8 → Reported s (activation d s) .detectorState
        (.detector d) (detectorStateFields { recOf s d with active := true, silent := false, chatter := true }))) := by
  have posts := activatedAt_posts d s
  have hrec := (activatedAt_judges d s).record_same
  rw [activation_eq]
  generalize activatedAt d s = v at *
  have frame : v.flt = s.flt ∧ v.lnk = s.lnk ∧ v.uptime = s.uptime := by
    rw [posts.eq]
    exact ⟨rfl, rfl, rfl⟩
  obtain ⟨hflt, hlnk, hnow⟩ := frame
  obtain ⟨L, F, hlength, hin, hF, hsilent, hchatter, hmonitored⟩ := activation_monitored (s := v) (heard := heard) d
    (by rw [hflt]; exact hinbox) (by rw [hflt]; exact hmode) (by rw [hheard, hrec, hflt]; rfl)
  have hrises : ((recOf v d).activations = 9 ∧ (recOf v d).chatter = false) ↔
      (recOf s d).chatter = false ∧ (recOf s d).activations = 8 := by
    rw [hrec, and_comm]
    exact and_congr_right' satInc8_eq_nine
  have closing := detDone_done (s := judgeChatter d (endSilent d v)) (by rw [hmonitored.flt, hin])
  have reported {x : Det1} (hx : statePosting d x ∈ L) (hkind : s.lnk.kinds.get 8 = true)
      (hroom : s.lnk.reports.length ≤ 27) : Reported s (detDone (judgeChatter d (endSilent d v))) .detectorState
        (.detector d) (detectorStateFields x) :=
    reported_of_uptime (closing.reported hmonitored hx (by rw [hlnk]; exact hkind) (by rw [hlnk]; omega)) hnow
  refine ⟨fun k hk hextend => ?gap, ?flt, fun hkind hroom => ⟨fun h => ?silent, fun h => ?chatter⟩⟩
  case gap =>
    refine closing.gapKept ?_
    rw [hmonitored.seq]
    exact posts.gap k hk hextend
  case flt =>
    rw [closing.flt, hmonitored.flt, hF]
    exact if_congr hrises (record_congr _ _ rfl hnow) rfl
  case silent =>
    have hposting := hsilent (by rw [hrec]; exact h)
    rw [hrec] at hposting
    exact reported hposting hkind hroom
  case chatter =>
    have hposting := hchatter (hrises.mpr h)
    rw [hrec] at hposting
    exact reported hposting hkind hroom

/-! ### An accepted release (R79, R81) -/

/-- R79: the record at an accepted release, before the monitor judges it. -/
def Det1.released (x : Det1) : Det1 :=
  { x with active := false, timer := none, activeSince := none, releaseSeen := true }

theorem release_judges (d : Detector) (s : State) : Judges d (fun x => x.released.unstuck) s (release d s) :=
  detDone_judges <| (Judges.onRec d Det1.released s).trans (endStuckOn_judges d _)

/-- R81, R84: with nothing waiting and outside DARK, FLT and the report after a release. -/
theorem release_answers (d : Detector) (hinbox : s.flt.inbox = []) (hmode : s.flt.mode ≠ .dark) :
    (release d s).flt = (if (recOf s d).stuckOn = true then s.flt.cleared .detectorStuckOn (.detector d) else s.flt) ∧
    ((recOf s d).stuckOn = true → s.lnk.kinds.get 8 = true → s.lnk.reports.length ≤ 29 →
      Reported s (release d s) .detectorState (.detector d) (detectorStateFields (recOf s d).released.unstuck)) := by
  obtain ⟨l, hl, hposting, hmonitored⟩ := monitor_clear_if (s := onRec d Det1.released s) (d := d)
    (p := (recOf (onRec d Det1.released s) d).stuckOn = true) .detectorStuckOn hinbox hmode Det1.unstuck
  rw [recOf_onRec_same] at hposting
  have hflt : (if (recOf (onRec d Det1.released s) d).stuckOn = true then
        (onRec d Det1.released s).flt.cleared .detectorStuckOn (.detector d) else (onRec d Det1.released s).flt) =
      if (recOf s d).stuckOn = true then s.flt.cleared .detectorStuckOn (.detector d) else s.flt := by
    rw [recOf_onRec_same]
    rfl
  rw [hflt] at hmonitored
  change Monitored _ _ l (endStuckOn d (onRec d Det1.released s)) at hmonitored
  have hin : (endStuckOn d (onRec d Det1.released s)).flt.inbox = [] := by
    rw [hmonitored.flt]
    split
    · rw [Flt.cleared_frame]; exact hinbox
    · exact hinbox
  have closing : Done (endStuckOn d (onRec d Det1.released s)) (release d s) := detDone_done hin
  refine ⟨closing.flt.trans hmonitored.flt, fun hstuck hkind hroom => ?_⟩
  exact reported_of_uptime (closing.reported hmonitored (hposting hstuck) hkind
    (by show s.lnk.reports.length + _ ≤ 32; omega)) rfl

/-! ### The commands -/

theorem detectorActivation_of_due {x : Timer} (hserved : s.jds.served d = true) (htimer : (recOf s d).timer = some x)
    (hdue : x.limit ≤ x.ms) (hactive : (recOf s d).active = false) :
    exec (.detectorActivation d) s = .next (activation d s) :=
  if_pos (by simp [debounced, timerDue, Timer.due, hserved, htimer, hdue, hactive])

theorem detectorRelease_of_due {x : Timer} (hserved : s.jds.served d = true) (htimer : (recOf s d).timer = some x)
    (hdue : x.limit ≤ x.ms) (hactive : (recOf s d).active = true) :
    exec (.detectorRelease d) s = .next (release d s) :=
  if_pos (by simp [debounced, timerDue, Timer.due, hserved, htimer, hdue, hactive])

theorem detectorInputChange_of_change {closed : Bool} (h : (recOf s d).contact ≠ closed) :
    exec (.detectorInputChange d closed) s = .next (inputChange d closed s) := if_neg h

/-- R75: the contact's level noted. -/
def noted (d : Detector) (closed : Bool) (s : State) : State := onRec d (fun x => { x with contact := closed }) s

theorem inputChange_eq (d : Detector) (closed : Bool) (s : State) : inputChange d closed s =
    if s.jds.served d = false then noted d closed s
    else if closed = (recOf s d).active then
      onRec d (fun x => { x with contact := closed, timer := none }) s
    else if (s.jds.detector.get d).debounce = 0 then
      if closed = true then activation d (noted d closed s) else release d (noted d closed s)
    else onRec d (fun x => { x with contact := closed, timer := some ⟨0, (s.jds.detector.get d).debounce⟩ }) s := by
  unfold inputChange
  simp only [onRec_onRec, Bool.not_eq_true']
  rfl

/-- R75, log 28: with no debounce time the change is accepted in the input change. -/
theorem inputChange_accepted {closed : Bool} (hserved : s.jds.served d = true) (hactive : closed ≠ (recOf s d).active)
    (hdebounce : (s.jds.detector.get d).debounce = 0) : (recOf (inputChange d closed s) d).active = closed ∧
      (recOf (inputChange d closed s) d).contact = closed := by
  have hnoted : (recOf (noted d closed s) d).contact = closed := by rw [noted, recOf_onRec_same]
  rw [inputChange_eq, if_neg (by simp [hserved]), if_neg hactive, if_pos hdebounce]
  cases closed with
  | true =>
    rw [if_pos rfl, (activation_judges d _).record_same]
    exact ⟨rfl, hnoted⟩
  | false =>
    rw [if_neg (by decide), (release_judges d _).record_same]
    exact ⟨rfl, hnoted⟩

end Sys2Proof.Machine

namespace Sys2Proof.Proofs

open Sys2Proof Sys2Proof.Machine

/-- Settles O43: the records by `activation_judges` and `release_judges`, which hold whatever waits for FLT; what FLT,
SEQ and the report queue make of an accepted change by `activation_answers` and `release_answers`. -/
theorem detectorInputsAndAcceptedChanges : Obligations.DetectorInputsAndAcceptedChanges := by
  unfold Obligations.DetectorInputsAndAcceptedChanges
  refine ⟨?input, ?activation, ?release⟩
  case input =>
    intro d closed s hcontact
    rw [detectorInputChange_of_change hcontact]
    refine ⟨fun hserved hactive hdebounce => ?_, fun hserved hactive => ?_, fun hserved => ?_,
      fun hserved hactive hdebounce => ⟨_, rfl, inputChange_accepted hserved hactive hdebounce⟩⟩
    · rw [inputChange_eq, if_neg (by simp [hserved]), if_neg hactive, if_neg hdebounce]
      rfl
    · rw [inputChange_eq, if_neg (by simp [hserved]), if_pos hactive]
      rfl
    · rw [inputChange_eq, if_pos hserved]
      rfl
  case activation =>
    intro d x s hserved htimer hdue hactive y shown
    have hshown : shownStage s = shown := shownStage_eq s
    have judged := activation_judges d s
    have hrec := judged.record_same
    refine ⟨_, detectorActivation_of_due hserved htimer hdue hactive, ?_⟩
    rw [hrec]
    refine ⟨rfl, rfl, rfl, rfl, rfl, rfl, fun hkind => ?silentSince, rfl, ?captured, ?capturedTime, ?chatter, rfl,
      fun k hk hcurrent => activation_demand hk hcurrent, fun hinbox hmode => ?answers, judged.record_ne, judged.jds⟩
    case silentSince => exact if_pos hkind
    case captured =>
      rw [← hshown]
      rfl
    case capturedTime =>
      rw [← hshown]
      show (shownStage s).bind _ = _
      cases shownStage s <;> cases s.seq.elapsed <;> rfl
    case chatter =>
      show (y.chatter || decide (satInc8 y.activations = 9)) = _
      simp only [satInc8_eq_nine]
    case answers =>
      intro heard rises quietNow
      have hheard : heard = s.flt.heardFrom d (recOf s d) := by
        simp only [heard, takeClear_eq _ _ hmode]
        rfl
      obtain ⟨hgap, hflt, hreports⟩ := activation_answers d hinbox hmode hheard
      rw [hshown] at hgap
      rw [takeRaise_flt (by decide)]
      exact ⟨hgap, hflt, hreports⟩
  case release =>
    intro d x s hserved htimer hdue hactive
    have judged := release_judges d s
    refine ⟨_, detectorRelease_of_due hserved htimer hdue hactive, judged.record_same, fun hinbox hmode => ?_,
      judged.record_ne, judged.jds⟩
    rw [takeClear_eq _ _ hmode, judged.record_same]
    exact release_answers d hinbox hmode

end Sys2Proof.Proofs
end

section
/-! PROOF. OSW's shared operations, relay by relay (R88, R89, R97 to R101): what each makes of a relay section, what it
leaves unchanged, and what it tells FLT. -/

namespace Sys2Proof.Machine

variable {s t u : State} {c d e : Circuit} {g : Group}

/-! ### Operations applied in number order -/

section
variable {n : Nat} {f : Fin n → State → State}

theorem forEach_keeps {P : State → Prop} (hf : ∀ i t, P t → P (f i t)) (h : P s) : P (forEach f s) :=
  List.foldlRecOn (allFin n) (fun t i => f i t) h fun t ht i _ => hf i t ht

/-- What the operation at one index establishes, and none destroys, holds after all of them; `I` is what all keep. -/
theorem forEach_establishes {I P : State → Prop} (i : Fin n) (hI : ∀ j t, I t → I (f j t))
    (hset : ∀ t, I t → P (f i t)) (hkeep : ∀ j t, I t → P t → P (f j t)) (h : I s) : P (forEach f s) := by
  obtain ⟨l, m, hsplit⟩ := List.append_of_mem (mem_allFin i)
  have before : I (l.foldl (fun t j => f j t) s) :=
    List.foldlRecOn l (fun t j => f j t) h fun t ht j _ => hI j t ht
  have after : I _ ∧ P _ :=
    List.foldlRecOn (motive := fun t => I t ∧ P t) m (fun t j => f j t) ⟨hI i _ before, hset _ before⟩
      fun t ht j _ => ⟨hI j t ht.1, hkeep j t ht.1 ht.2⟩
  simpa only [forEach, hsplit, List.foldl_append, List.foldl_cons] using after.2

theorem forEach_idle (h : ∀ i, f i s = s) : forEach f s = s :=
  forEach_keeps (P := (· = s)) (fun i t ht => by rw [ht, h i]) rfl

/-- Only the operation at `a` finds anything to do. -/
theorem forEach_alone (a : Fin n) (hbefore : ∀ i, i ≠ a → f i s = s) (hafter : ∀ i, i ≠ a → f i (f a s) = f a s) :
    forEach f s = f a s := by
  have idle {v : State} {l : List (Fin n)} (h : ∀ i ∈ l, f i v = v) : l.foldl (fun t i => f i t) v = v := by
    induction l with
    | nil => rfl
    | cons i l ih =>
      rw [List.foldl_cons, h i (List.mem_cons_self ..)]
      exact ih fun j hj => h j (List.mem_cons_of_mem _ hj)
  obtain ⟨l, m, hsplit⟩ := List.append_of_mem (mem_allFin a)
  have hnodup : (l ++ a :: m).Nodup := hsplit ▸ List.nodup_finRange n
  rw [List.nodup_append, List.nodup_cons] at hnodup
  obtain ⟨-, ⟨ham, -⟩, hla⟩ := hnodup
  rw [forEach, hsplit, List.foldl_append, List.foldl_cons,
    idle fun i hi => hbefore i (hla i hi a (List.mem_cons_self ..)),
    idle fun i hi => hafter i fun h => ham (h ▸ hi)]

end

/-! ### Circuits and groups (R3) -/

theorem mem_circuitsOf : c ∈ circuitsOf g ↔ groupOf c = g := by
  refine ⟨groupOf_of_mem, fun h => ?_⟩
  subst h
  simp only [circuitsOf, List.mem_cons, List.not_mem_nil, or_false, Fin.ext_iff, redOf, amberOf, greenOf, groupOf]
  omega

theorem aspectOf_eq_red : aspectOf c = .red ↔ c = redOf (groupOf c) := by
  have hval : c = redOf (groupOf c) ↔ c.val % 3 = 0 := by
    simp only [Fin.ext_iff, redOf, groupOf]
    omega
  rw [hval, aspectOf]
  split
  · simpa
  · split <;> simpa

/-! ### A coil's transitions (R88, R89) -/

/-- What FLT hears of a transition, under the kinds of its owner. -/
def CoilFault.events (f : CoilFault) (failClosed failOpen : FaultKind) (j : Subject) : List FltEvent :=
  match f with
  | .quiet => []
  | .raiseClosed => [.raise failClosed j noDetail]
  | .raiseOpen => [.raise failOpen j noDetail]
  | .clearClosed => [.clear failClosed j]
  | .clearOpen => [.clear failOpen j]

theorem coilFault_eq (f : CoilFault) (a b : FaultKind) (j : Subject) (s : State) :
    coilFault f a b j s = { s with flt := { s.flt with inbox := s.flt.inbox ++ f.events a b j } } := by
  cases f with
  | quiet => simp only [coilFault, CoilFault.events, List.append_nil]
  | _ => rfl

theorem Coil.close_cases (now : Stamp) (pullIn : Nat) (k : Coil) :
    k.close now pullIn = k.prove .closed now ∨
    k.close now pullIn = { k with state := .closing, timer := some (Timer.start pullIn) } := by
  unfold Coil.close
  split
  · exact .inl rfl
  · exact .inr rfl

theorem Coil.release_cases (now : Stamp) (dropOut : Nat) (k : Coil) :
    k.release now dropOut = k.prove .open now ∨
    k.release now dropOut = { k with state := .opening, timer := some (Timer.start dropOut) } := by
  unfold Coil.release
  split
  · exact .inr rfl
  · exact .inl rfl

/-- R88: a coil that is commanded keeps its state, enters CLOSING or OPENING, or has a failure ended. -/
theorem Coil.command_cases (on : Bool) (now : Stamp) (tm : TimingRec) (k : Coil) :
    let l : Coil := { k with commanded := on }
    let m := (k.command on now tm).1
    m = l ∨ m = l.close now tm.pullIn ∨ m = l.release now tm.dropOut ∨ m = l.prove .open now ∨
    m = l.prove .closed now := by
  unfold Coil.command
  dsimp only
  split
  · exact .inr (.inl rfl)
  · exact .inr (.inl rfl)
  · exact .inr (.inr (.inl rfl))
  · exact .inr (.inr (.inl rfl))
  · exact .inr (.inr (.inr (.inl rfl)))
  · exact .inr (.inr (.inr (.inr rfl)))
  · exact .inl rfl

theorem Coil.command_frame (on : Bool) (now : Stamp) (tm : TimingRec) (k : Coil) :
    (k.command on now tm).1.commanded = on ∧ (k.command on now tm).1.feedback = k.feedback := by
  obtain h | h | h | h | h := k.command_cases on now tm
  · rw [h]; exact ⟨rfl, rfl⟩
  · obtain h' | h' := Coil.close_cases now tm.pullIn { k with commanded := on }
    all_goals rw [h, h']; exact ⟨rfl, rfl⟩
  · obtain h' | h' := Coil.release_cases now tm.dropOut { k with commanded := on }
    all_goals rw [h, h']; exact ⟨rfl, rfl⟩
  · rw [h]; exact ⟨rfl, rfl⟩
  · rw [h]; exact ⟨rfl, rfl⟩

/-- R88: a started timer has the limit of the present description; a proven state bears the present uptime. -/
structure Coil.Settles (now : Stamp) (tm : TimingRec) (l : Coil) : Prop where
  closing : l.state = .closing → l.timer = some (Timer.start tm.pullIn)
  opening : l.state = .opening → l.timer = some (Timer.start tm.dropOut)
  proven : l.state = .open ∨ l.state = .closed → l.timer = none ∧ l.lastChange = some now

theorem Coil.prove_settles {st : RelayState} (h : st = .open ∨ st = .closed) (now : Stamp) (tm : TimingRec)
    (k : Coil) : (k.prove st now).Settles now tm := by
  obtain rfl | rfl := h <;> constructor <;> simp [Coil.prove]

theorem Coil.command_settles (on : Bool) (now : Stamp) (tm : TimingRec) {k : Coil}
    (hmoved : (k.command on now tm).1.state ≠ k.state) : (k.command on now tm).1.Settles now tm := by
  obtain h | h | h | h | h := k.command_cases on now tm
  · exact absurd (congrArg Coil.state h) hmoved
  · rw [h]
    obtain h' | h' := Coil.close_cases now tm.pullIn { k with commanded := on }
    · rw [h']; exact prove_settles (.inr rfl) now tm _
    · rw [h']; constructor <;> simp
  · rw [h]
    obtain h' | h' := Coil.release_cases now tm.dropOut { k with commanded := on }
    · rw [h']; exact prove_settles (.inl rfl) now tm _
    · rw [h']; constructor <;> simp
  · rw [h]; exact prove_settles (.inl rfl) now tm _
  · rw [h]; exact prove_settles (.inr rfl) now tm _

/-- R89: an accepted feedback leaves a coil's state, proves one, or shows that the coil has failed. -/
theorem Coil.feed_cases (closed : Bool) (now : Stamp) (k : Coil) :
    let l : Coil := { k with feedback := closed, debounce := none }
    let m := (k.feed closed now).1
    m = l ∨ m = l.prove .open now ∨ m = l.prove .closed now ∨ m = l.fail .failedClosed ∨ m = l.fail .failedOpen := by
  unfold Coil.feed
  dsimp only
  split
  · exact .inr (.inr (.inr (.inl rfl)))
  · exact .inr (.inr (.inl rfl))
  · exact .inr (.inr (.inr (.inr rfl)))
  · exact .inr (.inl rfl)
  · exact .inr (.inr (.inl rfl))
  · exact .inr (.inl rfl)
  · exact .inl rfl

theorem Coil.feed_frame (closed : Bool) (now : Stamp) (k : Coil) :
    (k.feed closed now).1.feedback = closed ∧ (k.feed closed now).1.debounce = none ∧
    (k.feed closed now).1.commanded = k.commanded := by
  obtain h | h | h | h | h := k.feed_cases closed now
  all_goals rw [h]; exact ⟨rfl, rfl, rfl⟩

/-- R89: a moved coil has no timer running, and one proven OPEN or CLOSED bears the present uptime. -/
theorem Coil.feed_moved (closed : Bool) (now : Stamp) {k : Coil} (hmoved : (k.feed closed now).1.state ≠ k.state) :
    (k.feed closed now).1.timer = none ∧
    ((k.feed closed now).1.state = .open ∨ (k.feed closed now).1.state = .closed →
      (k.feed closed now).1.lastChange = some now) := by
  obtain h | h | h | h | h := k.feed_cases closed now
  · exact absurd (congrArg Coil.state h) hmoved
  · rw [h]; exact ⟨rfl, fun _ => rfl⟩
  · rw [h]; exact ⟨rfl, fun _ => rfl⟩
  · rw [h]; exact ⟨rfl, by simp [Coil.fail]⟩
  · rw [h]; exact ⟨rfl, by simp [Coil.fail]⟩

/-- R89: an expired timer leaves a coil's state or shows that the coil has failed. -/
theorem Coil.expire_cases (k : Coil) :
    k.expire.1 = k ∨ k.expire.1 = k.fail .failedClosed ∨ k.expire.1 = k.fail .failedOpen := by
  unfold Coil.expire
  split
  · exact .inr (.inr rfl)
  · exact .inr (.inl rfl)
  · exact .inl rfl

theorem Coil.expire_commanded (k : Coil) : k.expire.1.commanded = k.commanded := by
  obtain h | h | h := k.expire_cases
  · rw [h]
  · rw [h]; rfl
  · rw [h]; rfl

/-- R89: an expired timer proves no state. -/
theorem Coil.expire_moved {k : Coil} (hmoved : k.expire.1.state ≠ k.state) :
    k.expire.1.timer = none ∧ k.expire.1.state ≠ .closed := by
  obtain h | h | h := k.expire_cases
  · exact absurd (congrArg Coil.state h) hmoved
  · rw [h]; exact ⟨rfl, RelayState.noConfusion⟩
  · rw [h]; exact ⟨rfl, RelayState.noConfusion⟩

theorem Coil.command_table (a b : FaultKind) (j : Subject) (on : Bool) (now : Stamp) (tm : TimingRec) (k : Coil) :
    commandTable a b j k.state k.feedback on =
      ((k.command on now tm).1.state, (k.command on now tm).2.events a b j) := by
  obtain ⟨_, state, feedback, _, _, _, _⟩ := k
  cases state <;> cases on <;> cases feedback <;> rfl

theorem Coil.feed_table (a b : FaultKind) (j : Subject) (closed : Bool) (now : Stamp) (k : Coil) :
    feedbackTable a b j k.state closed = ((k.feed closed now).1.state, (k.feed closed now).2.events a b j) := by
  obtain ⟨_, state, _, _, _, _, _⟩ := k
  cases state <;> cases closed <;> rfl

theorem Coil.expire_table (a b : FaultKind) (j : Subject) (k : Coil) :
    expiryTable a b j k.state = (k.expire.1.state, k.expire.2.events a b j) := by
  obtain ⟨_, state, _, _, _, _, _⟩ := k
  cases state <;> rfl

/-- R88: a relay commanded on is OPEN no more. -/
theorem Coil.command_on_ne_open (now : Stamp) (tm : TimingRec) (k : Coil) :
    (k.command true now tm).1.state ≠ .open := by
  obtain ⟨_, state, feedback, _, _, _, _⟩ := k
  cases state <;> cases feedback <;> exact RelayState.noConfusion

/-- R88: a coil that is CLOSED when it is commanded on stays so. -/
theorem Coil.command_on_of_closed (now : Stamp) (tm : TimingRec) {k : Coil} (h : k.state = .closed) :
    (k.command true now tm).1.state = .closed := by
  obtain ⟨_, state, _, _, _, _, _⟩ := k
  cases h
  rfl

/-! ### A relay section after an operation -/

theorem relayAt_onRelay (c d : Circuit) (f : Relay → Relay) (s : State) :
    relayAt (onRelay c f s) d = if c = d then f (relayAt s d) else relayAt s d := Tab.get_modify _ _ _ _

@[simp] theorem relayAt_onRelay_same (c : Circuit) (f : Relay → Relay) (s : State) :
    relayAt (onRelay c f s) c = f (relayAt s c) := Tab.get_modify_same _ _ _

/-- R90: a relay's transition changes its coil and what FLT is to take. -/
theorem relayTo_eq (c : Circuit) (r : Coil × CoilFault) (s : State) :
    relayTo c r s = { onRelay c (fun x => { x with coil := r.1 }) s with
      flt := { s.flt with
        inbox := s.flt.inbox ++ r.2.events .relayFailClosed .relayFailOpen (.circuit c) } } := coilFault_eq _ _ _ _ _

theorem relayAt_relayTo (c d : Circuit) (r : Coil × CoilFault) (s : State) :
    relayAt (relayTo c r s) d = if c = d then { relayAt s d with coil := r.1 } else relayAt s d := by
  rw [relayTo_eq]
  exact relayAt_onRelay c d _ s

/-- R88: the relay section that a command makes. -/
def Relay.command (on : Bool) (now : Stamp) (tm : TimingRec) (r : Relay) : Relay :=
  if r.coil.commanded = on then r
  else { r with coil := (r.coil.command on now tm).1, switchCount := r.switchCount + 1 }

theorem relayAt_commandRelay (c d : Circuit) (on : Bool) (s : State) :
    relayAt (commandRelay c on s) d =
      if c = d then (relayAt s d).command on s.stamp s.jds.timing else relayAt s d := by
  unfold commandRelay
  by_cases hd : c = d
  · subst hd
    simp only [apply_ite (relayAt · c), relayAt_relayTo, relayAt_onRelay_same, if_true]
    rfl
  · simp only [apply_ite (relayAt · d), relayAt_relayTo, relayAt_onRelay, hd, if_false, ite_self]

theorem Relay.command_coil {on : Bool} (now : Stamp) (tm : TimingRec) {r : Relay} (h : r.coil.commanded ≠ on) :
    (r.command on now tm).coil = (r.coil.command on now tm).1 := by
  rw [Relay.command, if_neg h]

@[simp] theorem Relay.command_entering (on : Bool) (now : Stamp) (tm : TimingRec) (r : Relay) :
    (r.command on now tm).entering = r.entering := by
  unfold Relay.command
  split <;> rfl

@[simp] theorem Relay.command_commanded (on : Bool) (now : Stamp) (tm : TimingRec) (r : Relay) :
    (r.command on now tm).coil.commanded = on := by
  unfold Relay.command
  split
  · assumption
  · exact (Coil.command_frame on now tm r.coil).1

/-- R98: the relay section of a circuit against the newest command. -/
def Relay.act (wants : Bool) (now : Stamp) (tm : TimingRec) (r : Relay) : Relay :=
  if r.coil.commanded then if wants then r else ({ r with entering := false } : Relay).command false now tm
  else { r with entering := wants }

theorem relayAt_setEntering (c d : Circuit) (b : Bool) (s : State) :
    relayAt (setEntering c b s) d = if c = d then { relayAt s d with entering := b } else relayAt s d :=
  relayAt_onRelay c d _ s

theorem relayAt_actCircuit (c d : Circuit) (s : State) : relayAt (actCircuit c s) d =
    if c = d then (relayAt s d).act (wanted s d) s.stamp s.jds.timing else relayAt s d := by
  unfold actCircuit
  by_cases hd : c = d
  · subst hd
    simp only [apply_ite (relayAt · c), relayAt_commandRelay, relayAt_setEntering, if_true]
    rfl
  · simp only [apply_ite (relayAt · d), relayAt_commandRelay, relayAt_setEntering, hd, if_false, ite_self]

/-- R99: the relay section of a circuit that is judged. -/
theorem relayAt_judgeCircuit (c d : Circuit) (s : State) : relayAt (judgeCircuit c s) d =
    if c = d ∧ (relayAt s c).entering = true ∧ mayEnergise s c = true
    then ({ relayAt s d with entering := false } : Relay).command true s.stamp s.jds.timing else relayAt s d := by
  unfold judgeCircuit
  by_cases hd : c = d
  · subst hd
    simp only [apply_ite (relayAt · c), relayAt_commandRelay, relayAt_setEntering, if_true, Bool.and_eq_true, true_and]
    rfl
  · simp only [apply_ite (relayAt · d), relayAt_commandRelay, relayAt_setEntering, hd, if_false, ite_self, false_and]

/-! ### What the switching of relays leaves unchanged -/

/-- `t` is `s` with other relay sections, and with more for FLT to take. -/
def Switches (s t : State) : Prop :=
  t = { s with osw := { s.osw with relay := t.osw.relay }, flt := { s.flt with inbox := t.flt.inbox } }

namespace Switches

theorem refl (s : State) : Switches s s := rfl

theorem trans (h1 : Switches s t) (h2 : Switches t u) : Switches s u := by
  unfold Switches at *
  rw [h2]
  rw [h1]

theorem ite {p : Prop} [Decidable p] (ht : Switches s t) (hu : Switches s u) : Switches s (if p then t else u) := by
  split <;> assumption

theorem foldl {α : Type} {f : State → α → State} (hf : ∀ t a, Switches t (f t a)) (l : List α) (s : State) :
    Switches s (l.foldl f s) :=
  List.foldlRecOn l f (refl s) fun _ h a _ => h.trans (hf _ a)

theorem forEach {n : Nat} {f : Fin n → State → State} (hf : ∀ i t, Switches t (f i t)) (s : State) :
    Switches s (Machine.forEach f s) := foldl (fun t i => hf i t) _ s

theorem jds (h : Switches s t) : t.jds = s.jds := by rw [h]
theorem cbl (h : Switches s t) : t.cbl = s.cbl := by rw [h]
theorem mea (h : Switches s t) : t.mea = s.mea := by rw [h]
theorem stamp (h : Switches s t) : t.stamp = s.stamp := by rw [h]; rfl
theorem phase (h : Switches s t) : t.osw.phase = s.osw.phase := by rw [h]
theorem stored (h : Switches s t) : t.osw.stored = s.osw.stored := by rw [h]
theorem wanted (h : Switches s t) (c : Circuit) : wanted t c = wanted s c := by rw [h]; rfl

end Switches

theorem onRelay_switches (c : Circuit) (f : Relay → Relay) (s : State) : Switches s (onRelay c f s) := rfl

theorem commandRelay_switches (c : Circuit) (on : Bool) (s : State) : Switches s (commandRelay c on s) := by
  refine .ite (.refl s) ?_
  rw [relayTo_eq]
  rfl

theorem actCircuit_switches (c : Circuit) (s : State) : Switches s (actCircuit c s) :=
  .ite (.ite (.refl s) ((onRelay_switches c _ s).trans (commandRelay_switches c _ _))) (onRelay_switches c _ s)

theorem act_switches (g : Group) (s : State) : Switches s (act g s) := .foldl (fun t c => actCircuit_switches c t) _ s

theorem judgeCircuit_switches (c : Circuit) (s : State) : Switches s (judgeCircuit c s) :=
  .ite ((onRelay_switches c _ s).trans (commandRelay_switches c _ _)) (.refl s)

/-! ### The whole of a group command, and of the dark sequence -/

theorem relayAt_act (g : Group) (c : Circuit) (s : State) : relayAt (act g s) c =
    if groupOf c = g then (relayAt s c).act (wanted s c) s.stamp s.jds.timing else relayAt s c := by
  have hr := actCircuit_switches (redOf g) s
  have ha := hr.trans (actCircuit_switches (amberOf g) _)
  have distinct : redOf g ≠ amberOf g ∧ redOf g ≠ greenOf g ∧ amberOf g ≠ greenOf g := by
    simp [Fin.ext_iff, redOf, amberOf, greenOf]
  obtain ⟨hra, hrg, hag⟩ := distinct
  show relayAt (actCircuit (greenOf g) (actCircuit (amberOf g) (actCircuit (redOf g) s))) c = _
  simp only [relayAt_actCircuit, hr.wanted, ha.wanted, hr.stamp, ha.stamp, hr.jds, ha.jds]
  by_cases hc : groupOf c = g
  · rw [if_pos hc]
    have hmem : c = redOf g ∨ c = amberOf g ∨ c = greenOf g := by simpa [circuitsOf] using mem_circuitsOf.mpr hc
    obtain rfl | rfl | rfl := hmem
    · simp [hra.symm, hrg.symm]
    · simp [hra, hag.symm]
    · simp [hrg, hag]
  · have other {b : Circuit} (hb : b ∈ circuitsOf g) : b ≠ c := fun h => hc (h ▸ groupOf_of_mem hb)
    simp [hc, other (b := redOf g) (by simp [circuitsOf]), other (b := amberOf g) (by simp [circuitsOf]),
      other (b := greenOf g) (by simp [circuitsOf])]

end Sys2Proof.Machine
end

section
/-! PROOF. What OSW judges at every change (R93 to R103), step by step: the dark sequence, the switching conditions, the
release asks, REDS-FIRST, the conflict monitor, and the test that CBL abandons (R159, R160). -/

namespace Sys2Proof.Machine

variable {s t u : State} {c d e : Circuit} {g : Group} {w : Test}

/-! ### The contactor (R92, R53) -/

theorem contactorNotice_eq (s : State) : contactorNotice s = { s with
    seq := if s.seq.state = .startAllRed then
      { s.seq with allRed := some ⟨0, 100 * s.jds.timing.startUpAllRed⟩ } else s.seq } := by
  unfold contactorNotice
  split <;> rfl

theorem contactorTo_eq (r : Coil × CoilFault) (s : State) : contactorTo r s = { s with
    osw := { s.osw with contactor := r.1 }
    flt := { s.flt with
      inbox := s.flt.inbox ++ r.2.events .contactorFailClosed .contactorFailOpen .none }
    seq := if s.seq.state = .startAllRed ∧ r.1.state = .closed ∧ s.osw.contactor.state ≠ .closed then
      { s.seq with allRed := some ⟨0, 100 * s.jds.timing.startUpAllRed⟩ } else s.seq } := by
  unfold contactorTo
  rw [coilFault_eq]
  by_cases hclosed : r.1.state = .closed ∧ s.osw.contactor.state ≠ .closed
  · rw [if_pos (by simpa using hclosed), contactorNotice_eq]
    simp only [and_iff_left hclosed]
    rfl
  · rw [if_neg (by simpa using hclosed), if_neg fun h => hclosed h.2]
    rfl

/-- What a command of the contactor may change: its own section, what FLT is to take, and SEQ's start-up timer. -/
theorem commandContactor_frame (on : Bool) (s : State) : ∃ k f q, k.commanded = on ∧
    commandContactor on s = { s with osw := { s.osw with contactor := k }, flt := f, seq := q } := by
  unfold commandContactor
  split
  · next h => exact ⟨s.osw.contactor, s.flt, s.seq, h, rfl⟩
  · rw [contactorTo_eq]
    exact ⟨_, _, _, (Coil.command_frame on _ _ _).1, rfl⟩

/-! ### The dark sequence (R95, R96) -/

theorem darkCheck_of_phase (h : s.osw.phase ≠ .contactorRelease) : darkCheck s = s :=
  if_neg (by simp [h])

theorem darkCheck_of_contactor (hopen : s.osw.contactor.state ≠ .open)
    (hfailed : s.osw.contactor.state ≠ .failedClosed) : darkCheck s = s :=
  if_neg (by simp [hopen, hfailed])

theorem darkCheck_of_release (hphase : s.osw.phase = .contactorRelease)
    (h : s.osw.contactor.state = .open ∨ s.osw.contactor.state = .failedClosed) : darkCheck s = completeDark s :=
  if_pos (by simpa [hphase] using h)

/-- A change of the phase alone. -/
def enterPhase (p : Phase) (s : State) : State := s.onOsw fun o => { o with phase := p }

@[simp] theorem relayAt_enterPhase (p : Phase) (s : State) (c : Circuit) :
    relayAt (enterPhase p s) c = relayAt s c := rfl
@[simp] theorem enterPhase_phase (p : Phase) (s : State) : (enterPhase p s).osw.phase = p := rfl
@[simp] theorem enterPhase_cbl (p : Phase) (s : State) : (enterPhase p s).cbl = s.cbl := rfl
@[simp] theorem enterPhase_mea (p : Phase) (s : State) : (enterPhase p s).mea = s.mea := rfl

/-- R95: every relay commanded off. -/
def allOff (s : State) : State := forEach (fun c => commandRelay c false) s

theorem allOff_switches (s : State) : Switches s (allOff s) := .forEach (fun c t => commandRelay_switches c false t) s

theorem allOff_commanded (c : Circuit) (s : State) : (relayAt (allOff s) c).coil.commanded = false := by
  have commands (d : Circuit) (t : State) (h : d = c ∨ (relayAt t c).coil.commanded = false) :
      (relayAt (commandRelay d false t) c).coil.commanded = false := by
    rw [relayAt_commandRelay]
    split
    · exact Relay.command_commanded ..
    · next hd => exact h.resolve_left hd
  unfold allOff
  exact forEach_establishes (f := fun d => commandRelay d false) (I := fun _ => True)
    (P := fun t => (relayAt t c).coil.commanded = false) c (fun _ _ _ => trivial) (fun t _ => commands c t (.inl rfl))
    (fun d t _ h => commands d t (.inr h)) trivial

theorem completeDark_of_restarts (h : restartsBehind s = true) :
    completeDark s = forEach act (enterPhase .redsFirst (allOff s)) := if_pos h

theorem completeDark_of_stays_off (h : ¬restartsBehind s = true) :
    completeDark s = enterPhase .outputsOff (allOff s) := if_neg h

/-- R98: a relay that is off stays off while the stored commands are acted on. -/
theorem act_keeps_off (c : Circuit) (g : Group) (s : State) (h : (relayAt s c).coil.commanded = false) :
    (relayAt (act g s) c).coil.commanded = false := by
  rw [relayAt_act]
  split
  · simp [Relay.act, h]
  · exact h

theorem completeDark_commanded (c : Circuit) (s : State) : (relayAt (completeDark s) c).coil.commanded = false := by
  by_cases h : restartsBehind s = true
  · rw [completeDark_of_restarts h]
    refine forEach_keeps (P := fun t => (relayAt t c).coil.commanded = false) (act_keeps_off c) ?_
    rw [relayAt_enterPhase, allOff_commanded]
  · rw [completeDark_of_stays_off h, relayAt_enterPhase, allOff_commanded]

theorem completeDark_phase (s : State) :
    (completeDark s).osw.phase = if restartsBehind s = true then .redsFirst else .outputsOff := by
  split
  · next h =>
    rw [completeDark_of_restarts h, (Switches.forEach act_switches _).phase, enterPhase_phase]
  · next h =>
    rw [completeDark_of_stays_off h, enterPhase_phase]

theorem restartsBehind_iff : restartsBehind s = true ↔
    s.osw.contactor.state = .open ∧ (s.flt.mode = .startUp ∨ s.flt.mode = .allRed) := by
  simp [restartsBehind]

/-- The dark sequence is an affair of OSW and FLT. -/
theorem darkCheck_frame (s : State) : (darkCheck s).cbl = s.cbl ∧ (darkCheck s).mea = s.mea := by
  have hoff := allOff_switches s
  unfold darkCheck
  split
  · by_cases h : restartsBehind s = true
    · rw [completeDark_of_restarts h]
      have hact := Switches.forEach act_switches (enterPhase .redsFirst (allOff s))
      rw [hact.cbl, hact.mea, enterPhase_cbl, enterPhase_mea]
      exact ⟨hoff.cbl, hoff.mea⟩
    · rw [completeDark_of_stays_off h, enterPhase_cbl, enterPhase_mea]
      exact ⟨hoff.cbl, hoff.mea⟩
  · exact ⟨rfl, rfl⟩

/-! ### The switching conditions (R99, R100) -/

theorem mayEnergise_iff : mayEnergise s c = true ↔ (s.osw.phase = .redsFirst ∨ s.osw.phase = .live) ∧
    othersOpen s c = true ∧ (aspectOf c = .green → greenPermitted s c = true) ∧ s.cbl.pos.circuit ≠ some c ∧
    s.osw.freed ≠ some c := by
  simp only [mayEnergise, Bool.and_eq_true, Bool.or_eq_true, decide_eq_true_eq, ne_eq, decide_not, Bool.not_eq_true',
    decide_eq_false_iff_not, and_assoc, Classical.or_iff_not_imp_left, not_not]

theorem longSince_iff {x : Option Stamp} {n : Nat} : longSince x n = true ↔ ∀ y, x = some y → n ≤ y.elapsed := by
  cases x <;> simp [longSince]

/-- R99, condition 2: break before make. -/
theorem othersOpen_iff : othersOpen s c = true ↔
    ∀ o, groupOf o = groupOf c → o ≠ c → s.jds.fitted o = true → wanted s o = false →
      relayState s o = .open ∧ ∀ x, (relayAt s o).coil.lastChange = some x → s.jds.timing.deadTime ≤ x.elapsed := by
  simp only [othersOpen, List.all_eq_true, mem_circuitsOf, Bool.or_eq_true, Bool.and_eq_true, decide_eq_true_eq,
    Bool.not_eq_true', longSince_iff]
  refine forall₂_congr fun o ho => ?_
  by_cases hc : o = c <;> cases hf : s.jds.fitted o <;> cases hw : wanted s o <;> simp [hc]

theorem greenPermitted_iff : greenPermitted s c = true ↔
    ∀ g, s.jds.conflicts (groupOf c) g = true → relayState s (greenOf g) = .open := by
  simp only [greenPermitted, Jds.conflictingWith, List.all_eq_true, List.mem_filter, mem_allFin, true_and,
    decide_eq_true_eq]

theorem judgeCircuit_of_waits (h : (relayAt s c).entering = false ∨ mayEnergise s c = false) : judgeCircuit c s = s :=
  if_neg (by rcases h with h | h <;> simp [h])

/-! ### The ask (R101) -/

/-- `t` is `s` after asks for the injector's release: of OSW, only release-asked fields of entering circuits. -/
structure Asks (s t : State) : Prop where
  frame : t = { s with osw := { s.osw with relay := t.osw.relay }, cbl := t.cbl, mea := t.mea }
  section_eq : ∀ d, relayAt t d = { relayAt s d with releaseAsked := (relayAt t d).releaseAsked }
  not_entering : ∀ d, (relayAt s d).entering = false → relayAt t d = relayAt s d

namespace Asks

theorem refl (s : State) : Asks s s := ⟨rfl, fun _ => rfl, fun _ _ => rfl⟩

theorem coil (h : Asks s t) (d : Circuit) : (relayAt t d).coil = (relayAt s d).coil := by rw [h.section_eq]
theorem entering (h : Asks s t) (d : Circuit) : (relayAt t d).entering = (relayAt s d).entering := by rw [h.section_eq]
theorem relayState (h : Asks s t) (d : Circuit) : relayState t d = relayState s d := congrArg Coil.state (h.coil d)
theorem jds (h : Asks s t) : t.jds = s.jds := by rw [h.frame]
theorem phase (h : Asks s t) : t.osw.phase = s.osw.phase := by rw [h.frame]
theorem stored (h : Asks s t) : t.osw.stored = s.osw.stored := by rw [h.frame]

theorem trans (h1 : Asks s t) (h2 : Asks t u) : Asks s u where
  frame := by rw [h2.frame]; rw [h1.frame]
  section_eq d := by rw [h2.section_eq d, h1.section_eq d]
  not_entering d h := (h2.not_entering d ((h1.entering d).trans h)).trans (h1.not_entering d h)

theorem forEach {n : Nat} {f : Fin n → State → State} (hf : ∀ i t, Asks t (f i t)) (s : State) :
    Asks s (Machine.forEach f s) := forEach_keeps (fun i t h => h.trans (hf i t)) (refl s)

end Asks

/-- R101: the circuit is to ask for the injector's release. -/
def MustAsk (s : State) (c : Circuit) : Prop :=
  (relayAt s c).entering = true ∧ s.cbl.pos.circuit = some c ∧ (relayAt s c).releaseAsked = false

/-- The ask is noted with the circuit. -/
def noteAsk (c : Circuit) (s : State) : State := onRelay c (fun x => { x with releaseAsked := true }) s

theorem askCircuit_of_must (h : MustAsk s c) : askCircuit c s = commandRelease false (abandon (noteAsk c s)) :=
  if_pos (by obtain ⟨h1, h2, h3⟩ := h; simp [h1, h2, h3])

theorem askCircuit_of_not (h : ¬MustAsk s c) : askCircuit c s = s :=
  if_neg (by simpa [MustAsk] using h)

theorem release_abandon_eq (s : State) : ∃ x m, commandRelease false (abandon s) = { s with cbl := x, mea := m } := by
  obtain ⟨x, m, habandon⟩ := abandon_eq s
  obtain ⟨y, hrelease⟩ := commandRelease_cbl false (abandon s)
  exact ⟨y, m, by rw [hrelease, habandon]⟩

theorem askCircuit_asks (c : Circuit) (s : State) : Asks s (askCircuit c s) := by
  by_cases h : MustAsk s c
  · obtain ⟨x, m, heq⟩ := release_abandon_eq (noteAsk c s)
    rw [askCircuit_of_must h, heq]
    have note (d : Circuit) : relayAt (noteAsk c s) d =
        if c = d then { relayAt s d with releaseAsked := true } else relayAt s d := relayAt_onRelay c d _ s
    refine ⟨rfl, fun d => ?_, fun d hd => ?_⟩
    · change relayAt (noteAsk c s) d = { relayAt s d with releaseAsked := (relayAt (noteAsk c s) d).releaseAsked }
      rw [note]
      split <;> rfl
    · change relayAt (noteAsk c s) d = _
      rw [note, if_neg]
      rintro rfl
      exact Bool.noConfusion (hd.symm.trans h.1)
  · rw [askCircuit_of_not h]
    exact .refl s

/-! ### The test in flight (R159, R160) -/

/-- R148: a release from ON, with its limit of 100 ms; from elsewhere nothing. -/
structure Releases (x y : Cbl) : Prop where
  of_on : ∀ c m, x.pos = .on c m → y.pos = .releasing c m false ∧ y.release = some ⟨0, 100⟩
  of_not_on : (∀ c m, x.pos ≠ .on c m) → y.pos = x.pos ∧ y.release = x.release

theorem commandRelease_cbl_eq (s : State) : ∃ p r,
    (commandRelease false s).cbl = { s.cbl with pos := p, release := r } ∧
    Releases s.cbl (commandRelease false s).cbl := by
  unfold commandRelease
  split
  · next c m h =>
    refine ⟨_, _, rfl, fun c' m' h' => ?_, fun h' => absurd h (h' c m)⟩
    cases h.symm.trans h'
    exact ⟨rfl, rfl⟩
  · next h => exact ⟨_, _, rfl, fun c m h' => absurd h' (h c m), fun _ => ⟨rfl, rfl⟩⟩

theorem Releases.not_on {x y : Cbl} (h : Releases x y) (c : Circuit) (m : InjMode) : y.pos ≠ .on c m := by
  intro hy
  by_cases hx : ∃ c m, x.pos = .on c m
  · obtain ⟨c', m', hx⟩ := hx
    exact InjPos.noConfusion ((h.of_on c' m' hx).1.symm.trans hy)
  · push Not at hx
    exact hx c m ((h.of_not_on hx).1.symm.trans hy)

theorem commandRelease_of_not_on (h : ∀ c m, s.cbl.pos ≠ .on c m) : commandRelease false s = s := by
  unfold commandRelease
  split
  · next c m hpos => exact absurd hpos (h c m)
  · rfl

theorem abandon_of_none (h : s.cbl.test = none) : abandon s = s := by simp only [abandon, h]

/-- R111: a withdrawn request is WAITING no more, and CBL is as it was. -/
theorem withdraw_waiting (i : MSlot) (s : State) :
    (withdraw i s).cbl = s.cbl ∧ (withdraw i s).mea.isWaiting i = false := by
  unfold withdraw
  split
  · exact ⟨rfl, by cases i <;> rfl⟩
  · next h => exact ⟨rfl, by simpa using h⟩

theorem mea_ne_waiting {m : Mea} (h : m.isWaiting .cbl = false) (q : Req) : m.cbl ≠ .waiting q := by
  intro hq
  simp [Mea.isWaiting, Mea.slot, hq, SlotContent.waiting?] at h

/-- R160: what an abandonment is, where a test is in flight. -/
theorem abandon_of_some (h : s.cbl.test = some w) : (abandon s).cbl.test = none ∧ Releases s.cbl (abandon s).cbl ∧
    Abandoned s w (abandon s) := by
  obtain ⟨p, r, hcbl, hreleases⟩ := commandRelease_cbl_eq s
  obtain ⟨hkeep, hwaiting⟩ := withdraw_waiting .cbl (commandRelease false s)
  have habandon : (abandon s).cbl = { s.cbl with
      pos := p, release := r, test := none
      cable := s.cbl.cable.modify w.circuit fun x => { x with abandons := satInc8 x.abandons } } := by
    simp only [abandon, h, onCable, State.onCbl_cbl, hkeep, hcbl]
  have hmea : (abandon s).mea = (withdraw .cbl (commandRelease false s)).mea := by
    simp only [abandon, h, onCable, State.onCbl_mea]
  have hrel : Releases s.cbl (abandon s).cbl := by
    rw [hcbl] at hreleases
    rw [habandon]
    exact ⟨hreleases.of_on, hreleases.of_not_on⟩
  refine ⟨by rw [habandon], hrel, fun x hx => ?_, ?_, hrel.of_on, hrel.of_not_on, fun q _ _ => ?_⟩
  · rw [habandon] at hx
    cases hx
  · rw [habandon]
    exact Tab.get_modify_same ..
  · rw [hmea]
    exact mea_ne_waiting hwaiting q

theorem Abandoned.congr {s' t' : State} (hs : s'.cbl = s.cbl) (hsm : s'.mea = s.mea) (ht : t'.cbl = t.cbl)
    (htm : t'.mea = t.mea) (h : Abandoned s w t) : Abandoned s' w t' := by
  unfold Abandoned at *
  rw [hs, hsm, ht, htm]
  exact h

/-- The test `w`, in flight in `s`, has been abandoned, and no test is in flight nor the injector ON. -/
def HasAbandoned (s : State) (w : Test) (t : State) : Prop :=
  t.cbl.test = none ∧ (∀ c m, t.cbl.pos ≠ .on c m) ∧ Abandoned s w t

/-- The test `w` goes on as it was, or it has been abandoned. -/
def KeepsOrAbandons (s : State) (w : Test) (t : State) : Prop :=
  (t.cbl = s.cbl ∧ t.mea = s.mea) ∨ HasAbandoned s w t

theorem KeepsOrAbandons.congr (hcbl : u.cbl = t.cbl) (hmea : u.mea = t.mea) (h : KeepsOrAbandons s w t) :
    KeepsOrAbandons s w u := by
  obtain ⟨h1, h2⟩ | ⟨h1, h2, h3⟩ := h
  · exact .inl ⟨hcbl.trans h1, hmea.trans h2⟩
  · exact .inr ⟨hcbl ▸ h1, hcbl ▸ h2, h3.congr rfl rfl hcbl hmea⟩

/-- An abandonment, wanted by whatever circuit, is of `w` or finds `w` abandoned already. -/
theorem KeepsOrAbandons.abandon (hw : s.cbl.test = some w) (h : KeepsOrAbandons s w t) :
    HasAbandoned s w (abandon t) := by
  obtain ⟨hcbl, hmea⟩ | h := h
  · obtain ⟨hnone, hreleases, habandoned⟩ := abandon_of_some (s := t) (hcbl ▸ hw)
    exact ⟨hnone, hreleases.not_on, habandoned.congr hcbl.symm hmea.symm rfl rfl⟩
  · rwa [abandon_of_none h.1]

theorem KeepsOrAbandons.askCircuit (hw : s.cbl.test = some w) (c : Circuit) (h : KeepsOrAbandons s w t) :
    KeepsOrAbandons s w (askCircuit c t) := by
  by_cases hask : MustAsk t c
  · have hdone := KeepsOrAbandons.abandon hw (h.congr (u := noteAsk c t) rfl rfl)
    rw [askCircuit_of_must hask, commandRelease_of_not_on hdone.2.1]
    exact .inr hdone
  · rwa [askCircuit_of_not hask]

theorem cblWatch_of_none (h : s.cbl.test = none) : cblWatch s = s := by simp only [cblWatch, h]

/-- R159: the test's circuit enters, or its relay is no longer OPEN. -/
theorem cblWatch_of_drawn (hw : s.cbl.test = some w)
    (h : (relayAt s w.circuit).entering = true ∨ relayState s w.circuit ≠ .open) : cblWatch s = abandon s := by
  simp only [cblWatch, hw]
  exact if_pos (by rcases h with h | h <;> simp [h])

/-! ### REDS-FIRST (R94) -/

theorem redsClosed_iff : redsClosed s = true ↔
    ∀ c, aspectOf c = .red → s.jds.fitted c = true → relayState s c = .closed := by
  have hred (g : Group) : aspectOf (redOf g) = .red := by simp [aspectOf, redOf]
  simp only [redsClosed, List.all_eq_true, mem_allFin, forall_true_left, Bool.or_eq_true, Bool.not_eq_true',
    decide_eq_true_eq]
  refine ⟨fun h c hc hfit => ?_, fun h g => ?_⟩
  · rw [aspectOf_eq_red.mp hc] at hfit ⊢
    exact (h (groupOf c)).resolve_left (by simp [hfit])
  · cases hfit : s.jds.fitted (redOf g)
    · exact .inl rfl
    · exact .inr (h _ (hred g) hfit)

theorem redsCheck_of_closed (hphase : s.osw.phase = .redsFirst) (h : redsClosed s = true) :
    redsCheck s = commandContactor true (enterPhase .live s) := if_pos (by simp [hphase, h])

theorem redsCheck_of_not (h : s.osw.phase ≠ .redsFirst ∨ redsClosed s = false) : redsCheck s = s :=
  if_neg (by rcases h with h | h <;> simp [h])

/-- R94 touches the phase, the contactor, what FLT is to take and SEQ's start-up timer. -/
theorem redsCheck_frame (s : State) : ∃ p k f q, redsCheck s = { s with
    osw := { s.osw with phase := p, contactor := k }, flt := f, seq := q } := by
  by_cases h : s.osw.phase = .redsFirst ∧ redsClosed s = true
  · obtain ⟨k, f, q, -, hk⟩ := commandContactor_frame true (enterPhase .live s)
    rw [redsCheck_of_closed h.1 h.2, hk]
    exact ⟨_, _, _, _, rfl⟩
  · rw [redsCheck_of_not (by simpa [Classical.or_iff_not_imp_left] using h)]
    exact ⟨_, _, _, _, rfl⟩

/-! ### The conflict monitor (R103) -/

theorem conflictGroup_eq (g : Group) (s : State) : conflictGroup g s = { s with
    osw := { s.osw with conflict := s.osw.conflict.set g (conflictNow s g) }
    flt := { s.flt with
      inbox := s.flt.inbox ++ edge (s.osw.conflict.get g) (conflictNow s g)
        (.raise .conflict (.group g) 0xFF) (.clear .conflict (.group g)) } } := by
  unfold conflictGroup onChange edge
  cases s.osw.conflict.get g <;> cases conflictNow s g
  · simp [State.onOsw]
  · rfl
  · rfl
  · simp [State.onOsw]

theorem conflictNow_iff : conflictNow s g = true ↔ s.jds.used g = true ∧ s.osw.contactor.state ≠ .open ∧
    relayState s (greenOf g) ≠ .open ∧
    ∃ h, g < h ∧ s.jds.used h = true ∧ s.jds.conflicts g h = true ∧ relayState s (greenOf h) ≠ .open := by
  simp [conflictNow, greenLive, and_assoc]

theorem conflictNow_congr (hjds : t.jds = s.jds) (hrelay : t.osw.relay = s.osw.relay)
    (hcontactor : t.osw.contactor = s.osw.contactor) (g : Group) : conflictNow t g = conflictNow s g := by
  rw [Bool.eq_iff_iff]
  simp only [conflictNow_iff, relayState, relayAt, hjds, hrelay, hcontactor]

/-- What the conflict monitor leaves: all but the conditions and what FLT is to take. -/
theorem forEach_conflictGroup_frame (s : State) : ∃ f l, forEach conflictGroup s = { s with
    osw := { s.osw with conflict := f }, flt := { s.flt with inbox := l } } := by
  refine forEach_keeps (P := fun t => ∃ f l, t = { s with
    osw := { s.osw with conflict := f }, flt := { s.flt with inbox := l } }) (fun g t h => ?_) ⟨_, _, rfl⟩
  obtain ⟨f, l, rfl⟩ := h
  rw [conflictGroup_eq]
  exact ⟨_, _, rfl⟩

theorem conflictNow_conflictGroup (g h : Group) (s : State) : conflictNow (conflictGroup h s) g = conflictNow s g := by
  rw [conflictGroup_eq]
  exact conflictNow_congr rfl rfl rfl g

theorem forEach_conflictGroup_conflict (g : Group) (s : State) :
    (forEach conflictGroup s).osw.conflict.get g = conflictNow s g := by
  refine forEach_establishes (I := fun t => conflictNow t g = conflictNow s g)
    (P := fun t => t.osw.conflict.get g = conflictNow s g) g (fun h t ht => ?_) (fun t ht => ?_)
    (fun h t ht hg => ?_) rfl
  · rw [conflictNow_conflictGroup, ht]
  · rw [conflictGroup_eq, ← ht]
    exact Tab.get_set_same ..
  · by_cases hgh : h = g
    · subst hgh
      rw [conflictGroup_eq, ← ht]
      exact Tab.get_set_same ..
    · rw [conflictGroup_eq]
      exact (Tab.get_set_ne _ _ hgh).trans hg

/-! ### All that OSW judges -/

theorem lmpWatch_eq (s : State) : ∃ l, lmpWatch s = { s with lmp := l } := by
  refine forEach_keeps (P := fun t => ∃ l, t = { s with lmp := l }) (fun c t h => ?_) ⟨_, rfl⟩
  obtain ⟨l, rfl⟩ := h
  unfold unproveCircuit
  split <;> exact ⟨_, rfl⟩

/-- The relays after a change: the dark sequence, the switching conditions and the asks. -/
def switched (s : State) : State := forEach askCircuit (forEach judgeCircuit (darkCheck s))

/-- REDS-FIRST, the conflict monitor and LMP behind it. -/
def monitored (s : State) : State := lmpWatch (forEach conflictGroup (redsCheck s))

theorem oswAfter_eq (s : State) : oswAfter s = cblWatch (monitored (switched s)) := rfl

theorem monitored_osw (s : State) : ∃ f, (monitored s).osw = { (redsCheck s).osw with conflict := f } := by
  obtain ⟨l, hlmp⟩ := lmpWatch_eq (forEach conflictGroup (redsCheck s))
  obtain ⟨f, i, hconflict⟩ := forEach_conflictGroup_frame (redsCheck s)
  exact ⟨f, by rw [monitored, hlmp, hconflict]⟩

theorem monitored_frame (s : State) : (monitored s).osw.relay = s.osw.relay ∧ (monitored s).cbl = s.cbl ∧
    (monitored s).mea = s.mea := by
  obtain ⟨l, hlmp⟩ := lmpWatch_eq (forEach conflictGroup (redsCheck s))
  obtain ⟨f, i, hconflict⟩ := forEach_conflictGroup_frame (redsCheck s)
  obtain ⟨p, k, x, q, hreds⟩ := redsCheck_frame s
  rw [monitored, hlmp, hconflict, hreds]
  exact ⟨rfl, rfl, rfl⟩

theorem cblWatch_frame (s : State) : (cblWatch s).osw = s.osw ∧ (cblWatch s).jds = s.jds := by
  obtain ⟨x, m, hwatch⟩ := cblWatch_eq s
  rw [hwatch]
  exact ⟨rfl, rfl⟩

theorem oswAfter_osw (s : State) : ∃ f, (oswAfter s).osw = { (redsCheck (switched s)).osw with conflict := f } := by
  rw [oswAfter_eq, (cblWatch_frame _).1]
  exact monitored_osw (switched s)

theorem oswAfter_jds (s : State) : (oswAfter s).jds = s.jds := by
  obtain ⟨-, hjds, -⟩ := (oswAfter_drives s).frame
  exact hjds

theorem relayAt_oswAfter (s : State) (c : Circuit) : relayAt (oswAfter s) c = relayAt (switched s) c := by
  unfold relayAt
  rw [oswAfter_eq, (cblWatch_frame _).1, (monitored_frame (switched s)).1]

/-- R103: the conditions stand as the relays and the contactor do after all. -/
theorem oswAfter_conflict (s : State) (g : Group) :
    (oswAfter s).osw.conflict.get g = conflictNow (oswAfter s) g := by
  have watched (t : State) : (lmpWatch t).osw = t.osw ∧ (lmpWatch t).jds = t.jds := by
    obtain ⟨l, hlmp⟩ := lmpWatch_eq t
    rw [hlmp]
    exact ⟨rfl, rfl⟩
  have unwatched {t u : State} (h : u.osw = t.osw ∧ u.jds = t.jds) : conflictNow u g = conflictNow t g :=
    conflictNow_congr h.2 (by rw [h.1]) (by rw [h.1]) g
  have hnow (t : State) : conflictNow (forEach conflictGroup t) g = conflictNow t g :=
    forEach_keeps (P := fun v => conflictNow v g = conflictNow t g)
      (fun h v hv => (conflictNow_conflictGroup g h v).trans hv) rfl
  rw [oswAfter_eq, unwatched (cblWatch_frame _), (cblWatch_frame _).1, monitored, unwatched (watched _), (watched _).1,
    hnow, forEach_conflictGroup_conflict]

theorem judged_switches (s : State) : Switches s (forEach judgeCircuit s) := .forEach judgeCircuit_switches s

theorem asked_asks (s : State) : Asks s (forEach askCircuit s) := .forEach askCircuit_asks s

/-- R159, R160: a test whose circuit ends up entering, or with a relay no longer OPEN, has been abandoned once. -/
theorem oswAfter_abandons (hw : s.cbl.test = some w)
    (h : (relayAt (oswAfter s) w.circuit).entering = true ∨ relayState (oswAfter s) w.circuit ≠ .open) :
    Abandoned s w (oswAfter s) := by
  have hjudged := judged_switches (darkCheck s)
  obtain ⟨hcbl, hmea⟩ := darkCheck_frame s
  have hasked : KeepsOrAbandons s w (switched s) :=
    forEach_keeps (fun c t ht => ht.askCircuit hw c) (.inl ⟨hjudged.cbl.trans hcbl, hjudged.mea.trans hmea⟩)
  obtain ⟨hrelay, hmcbl, hmmea⟩ := monitored_frame (switched s)
  have hmon : KeepsOrAbandons s w (monitored (switched s)) := hasked.congr hmcbl hmmea
  have hat : relayAt (monitored (switched s)) w.circuit = relayAt (oswAfter s) w.circuit := by
    rw [relayAt_oswAfter]
    unfold relayAt
    rw [hrelay]
  rw [oswAfter_eq]
  obtain hkept | hdone := hmon
  · rw [cblWatch_of_drawn (w := w) (by rw [hkept.1, hw]) (by rwa [relayState, hat])]
    exact (KeepsOrAbandons.abandon hw (.inl hkept)).2.2
  · rw [cblWatch_of_none hdone.1]
    exact hdone.2.2

end Sys2Proof.Machine
end

section
/-! PROOF. Feedbacks and transition timers (R87, R89, R92): each command where its condition holds, and
`Obligations.RelaysAndContactorAreProven` from the tables of a coil's transitions. -/

namespace Sys2Proof.Machine

variable {s : State} {c : Circuit} {ms : Nat} {x : Timer}

theorem Coil.settled_of_due {k : Coil} (h : k.debounce = some ms) (hms : 5 ≤ ms) : k.settled = true := by
  simp [Coil.settled, h, hms]

theorem timerDue_of_limit {o : Option Timer} (h : o = some x) (hx : x.limit ≤ x.ms) : timerDue o = true := by
  simp [timerDue, Timer.due, h, hx]

theorem relayFeedbackAccepted_of_settled (h : (relayAt s c).coil.settled = true) :
    exec (.relayFeedbackAccepted c) s = .next (conclude (oswAfter
      (relayTo c ((relayAt s c).coil.feed (relayAt s c).coil.raw s.stamp) s))) := if_pos h

theorem relayTransitionTimeout_of_due (h : timerDue (relayAt s c).coil.timer = true) :
    exec (.relayTransitionTimeout c) s =
      .next (conclude (oswAfter (relayTo c (relayAt s c).coil.expire s))) := if_pos h

theorem contactorFeedbackAccepted_of_settled (h : s.osw.contactor.settled = true) :
    exec .contactorFeedbackAccepted s = .next (conclude (oswAfter
      (contactorTo (s.osw.contactor.feed s.osw.contactor.raw s.stamp) s))) := if_pos h

theorem contactorTransitionTimeout_of_due (h : timerDue s.osw.contactor.timer = true) :
    exec .contactorTransitionTimeout s =
      .next (conclude (oswAfter (contactorTo s.osw.contactor.expire s))) := if_pos h

/-- R90: beside the relay's coil and what FLT is to take, a relay's transition leaves all as it is. -/
theorem relayTo_frame (c : Circuit) (r : Coil × CoilFault) (s : State) :
    relayAt (relayTo c r s) c = { relayAt s c with coil := r.1 } ∧
    (relayTo c r s).flt = { s.flt with
      inbox := s.flt.inbox ++ r.2.events .relayFailClosed .relayFailOpen (.circuit c) } ∧
    (∀ e, e ≠ c → relayAt (relayTo c r s) e = relayAt s e) ∧
    (relayTo c r s).osw.contactor = s.osw.contactor ∧ (relayTo c r s).jds = s.jds ∧ (relayTo c r s).seq = s.seq := by
  refine ⟨?same, ?flt, fun e he => ?others, ?rest⟩
  case same => rw [relayAt_relayTo, if_pos rfl]
  case flt => rw [relayTo_eq]
  case others => rw [relayAt_relayTo, if_neg he.symm]
  case rest =>
    rw [relayTo_eq]
    exact ⟨rfl, rfl, rfl⟩

end Sys2Proof.Machine

namespace Sys2Proof.Proofs

open Sys2Proof Sys2Proof.Machine

/-- Settles O47: a coil moves by `Coil.feed_table` and `Coil.expire_table`; what the transition leaves unchanged is
`relayTo_frame` and `contactorTo_eq`. -/
theorem relaysAndContactorAreProven : Obligations.RelaysAndContactorAreProven := by
  unfold Obligations.RelaysAndContactorAreProven
  refine ⟨?relayFeedback, ?relayTimeout, ?contactorFeedback, ?contactorTimeout⟩
  case relayFeedback =>
    intro c ms s hdebounce hms k r
    obtain ⟨hfeedback, hdone, hcommanded⟩ := k.feed_frame k.raw s.stamp
    obtain ⟨hrelay, hflt, hothers, hcontactor, hjds, hseq⟩ := relayTo_frame c (k.feed k.raw s.stamp) s
    refine ⟨_, relayFeedbackAccepted_of_settled (Coil.settled_of_due hdebounce hms), ?_⟩
    rw [show r = _ from Coil.feed_table _ _ _ k.raw s.stamp k, hrelay]
    exact ⟨rfl, hfeedback, hdone, hcommanded, rfl, Coil.feed_moved _ _, hflt, hothers, hcontactor, hjds, hseq⟩
  case relayTimeout =>
    intro c x s htimer hx k r
    obtain ⟨hrelay, hflt, hothers, hcontactor, hjds, hseq⟩ := relayTo_frame c k.expire s
    refine ⟨_, relayTransitionTimeout_of_due (timerDue_of_limit htimer hx), ?_⟩
    rw [show r = _ from Coil.expire_table _ _ _ k, hrelay]
    exact ⟨rfl, k.expire_commanded, fun hmoved => (Coil.expire_moved hmoved).1, hflt, hothers, hcontactor, hjds, hseq⟩
  case contactorFeedback =>
    intro ms s hdebounce hms k r
    obtain ⟨hfeedback, hdone, hcommanded⟩ := k.feed_frame k.raw s.stamp
    refine ⟨_, contactorFeedbackAccepted_of_settled (Coil.settled_of_due hdebounce hms), ?_⟩
    rw [show r = _ from Coil.feed_table _ _ _ k.raw s.stamp k, contactorTo_eq]
    exact ⟨rfl, hfeedback, hdone, hcommanded, Coil.feed_moved _ _, rfl, rfl, rfl, rfl⟩
  case contactorTimeout =>
    intro x s htimer hx k r
    refine ⟨_, contactorTransitionTimeout_of_due (timerDue_of_limit htimer hx), ?_⟩
    rw [show r = _ from Coil.expire_table _ _ _ k, contactorTo_eq]
    refine ⟨rfl, k.expire_commanded, fun hmoved => (Coil.expire_moved hmoved).1, rfl, rfl, rfl, if_neg ?notProven⟩
    case notProven =>
      rintro ⟨-, hclosed, hbefore⟩
      have hmoved : k.expire.1.state ≠ k.state := fun h => hbefore (h ▸ hclosed)
      exact (Coil.expire_moved hmoved).2 hclosed

end Sys2Proof.Proofs
end

section
/-! PROOF. What OSW's judgements make of one circuit outside CONTACTOR-RELEASE (R98 to R101), and
`Obligations.DeadTimeEnergisesEnteringCircuit`. -/

namespace Sys2Proof.Machine

variable {s : State} {c e : Circuit} {w : Test}

/-! ### Any number of entering circuits -/

theorem switched_of_phase (hphase : s.osw.phase ≠ .contactorRelease) :
    switched s = forEach askCircuit (forEach judgeCircuit s) := by
  rw [switched, darkCheck_of_phase hphase]

/-- R98: a circuit that is not entering is left alone. -/
theorem oswAfter_of_not_entering (hphase : s.osw.phase ≠ .contactorRelease) (h : (relayAt s c).entering = false) :
    relayAt (oswAfter s) c = relayAt s c := by
  have hjudged : relayAt (forEach judgeCircuit s) c = relayAt s c := by
    refine forEach_keeps (P := fun t => relayAt t c = relayAt s c) (fun d t ht => ?_) rfl
    rw [relayAt_judgeCircuit, if_neg, ht]
    rintro ⟨rfl, henter, -⟩
    rw [ht, h] at henter
    exact Bool.noConfusion henter
  rw [relayAt_oswAfter, switched_of_phase hphase, (asked_asks _).not_entering c (by rw [hjudged, h]), hjudged]

/-- A wanted circuit on its way: it is entering, or it has been commanded on and its relay is OPEN no more. -/
def Relay.Energising (r : Relay) : Prop :=
  (r.entering = true ∧ r.coil.commanded = false) ∨
  (r.entering = false ∧ r.coil.commanded = true ∧ r.coil.state ≠ .open)

theorem Relay.energising_command {r : Relay} (h : r.coil.commanded = false) (now : Stamp) (tm : TimingRec) :
    (({ r with entering := false } : Relay).command true now tm).Energising := by
  refine .inr ⟨by simp, by simp, ?_⟩
  rw [Relay.command_coil now tm (by simp [h])]
  exact Coil.command_on_ne_open now tm r.coil

theorem judgeCircuit_energising (d : Circuit) (h : (relayAt s c).Energising) :
    (relayAt (judgeCircuit d s) c).Energising := by
  rw [relayAt_judgeCircuit]
  split
  · next hd =>
    obtain ⟨rfl, henter, -⟩ := hd
    obtain ⟨-, hoff⟩ | ⟨hnot, -⟩ := h
    · exact Relay.energising_command hoff _ _
    · exact absurd henter (by simp [hnot])
  · exact h

/-- R99: whatever is judged, a circuit on its way stays on its way. -/
theorem oswAfter_energising (hphase : s.osw.phase ≠ .contactorRelease) (h : (relayAt s c).Energising) :
    (relayAt (oswAfter s) c).Energising := by
  have hjudged : (relayAt (forEach judgeCircuit s) c).Energising :=
    forEach_keeps (P := fun t => (relayAt t c).Energising) (fun d t => judgeCircuit_energising d) h
  have hasks := asked_asks (forEach judgeCircuit s)
  rw [relayAt_oswAfter, switched_of_phase hphase]
  unfold Relay.Energising
  rw [hasks.entering, hasks.coil]
  exact hjudged

/-! ### One entering circuit -/

section
variable (honly : ∀ d, d ≠ e → (relayAt s d).entering = false)
include honly

theorem judged_alone : forEach judgeCircuit s = judgeCircuit e s := by
  refine forEach_alone e (fun d hd => judgeCircuit_of_waits (.inl (honly d hd))) fun d hd =>
    judgeCircuit_of_waits (.inl ?_)
  rw [relayAt_judgeCircuit, if_neg fun h => hd h.1.symm, honly d hd]

/-- R99: the one entering circuit that meets the conditions is commanded on. -/
theorem oswAfter_energises (hphase : s.osw.phase ≠ .contactorRelease) (henter : (relayAt s e).entering = true)
    (hmay : mayEnergise s e = true) :
    (relayAt (oswAfter s) e).coil.commanded = true ∧ (relayAt (oswAfter s) e).entering = false := by
  have hjudged : relayAt (judgeCircuit e s) e =
      ({ relayAt s e with entering := false } : Relay).command true s.stamp s.jds.timing := by
    rw [relayAt_judgeCircuit, if_pos ⟨rfl, henter, hmay⟩]
  have hentering : (relayAt (judgeCircuit e s) e).entering = false := by rw [hjudged, Relay.command_entering]
  rw [relayAt_oswAfter, switched_of_phase hphase, judged_alone honly,
    (asked_asks _).not_entering e hentering, hjudged]
  exact ⟨Relay.command_commanded .., Relay.command_entering ..⟩

/-- R101: the one entering circuit that does not meet the conditions may ask; nothing else happens to a relay. -/
theorem switched_of_waits (hphase : s.osw.phase ≠ .contactorRelease) (hmay : mayEnergise s e = false) :
    switched s = askCircuit e s := by
  rw [switched_of_phase hphase, judged_alone honly, judgeCircuit_of_waits (.inr hmay)]
  refine forEach_alone e (fun d hd => askCircuit_of_not fun h => ?_) fun d hd => askCircuit_of_not fun h => ?_
  · exact Bool.noConfusion (h.1.symm.trans (honly d hd))
  · have hasks := askCircuit_asks e s
    exact Bool.noConfusion (h.1.symm.trans ((hasks.entering d).trans (honly d hd)))

end

/-! ### The ask's answer -/

/-- R101, R160: the injector is released, and the test in flight abandoned. -/
theorem askCircuit_released (h : MustAsk s e) : (askCircuit e s).cbl.test = none ∧
    Releases s.cbl (askCircuit e s).cbl ∧ ∀ w, s.cbl.test = some w → Abandoned s w (askCircuit e s) := by
  rw [askCircuit_of_must h]
  cases hw : s.cbl.test with
  | none =>
    obtain ⟨p, r, hcbl, hreleases⟩ := commandRelease_cbl_eq (noteAsk e s)
    rw [abandon_of_none (s := noteAsk e s) hw]
    exact ⟨by rw [hcbl]; exact hw, hreleases, by simp⟩
  | some w =>
    obtain ⟨hnone, hreleases, habandoned⟩ := abandon_of_some (s := noteAsk e s) hw
    rw [commandRelease_of_not_on hreleases.not_on]
    refine ⟨hnone, hreleases, fun v hv => ?_⟩
    cases hv
    exact habandoned.congr rfl rfl rfl rfl

/-- R159: with no test in flight CBL has nothing to watch. -/
theorem oswAfter_of_no_test (h : (switched s).cbl.test = none) :
    (oswAfter s).cbl = (switched s).cbl ∧ (oswAfter s).mea = (switched s).mea := by
  obtain ⟨-, hcbl, hmea⟩ := monitored_frame (switched s)
  rw [oswAfter_eq, cblWatch_of_none (by rw [hcbl, h])]
  exact ⟨hcbl, hmea⟩

theorem releaseAsked_of_must (h : MustAsk s e) : (relayAt (askCircuit e s) e).releaseAsked = true := by
  obtain ⟨x, m, heq⟩ := release_abandon_eq (noteAsk e s)
  rw [askCircuit_of_must h, heq]
  exact congrArg Relay.releaseAsked (relayAt_onRelay_same e _ s)

theorem deadTimeElapsed_of_open (hopen : relayState s c = .open)
    (hlong : longSince (relayAt s c).coil.lastChange s.jds.timing.deadTime = true) :
    exec (.deadTimeElapsed c) s = .next (conclude (oswAfter s)) := if_pos (by simp [hopen, hlong])

end Sys2Proof.Machine

namespace Sys2Proof.Proofs

open Sys2Proof Sys2Proof.Machine

/-- Settles O49: the command judges the one entering circuit. Where `mayEnergise` holds it is commanded on
(`oswAfter_energises`); where not, it can only ask (`switched_of_waits`, `askCircuit_released`). -/
theorem deadTimeEnergisesEnteringCircuit : Obligations.DeadTimeEnergisesEnteringCircuit := by
  unfold Obligations.DeadTimeEnergisesEnteringCircuit
  intro c e s hopen hlong henter honly hoff hphase
  have hrelease : s.osw.phase ≠ .contactorRelease := by rcases hphase with h | h <;> simp [h]
  refine ⟨_, deadTimeElapsed_of_open hopen (longSince_iff.mpr hlong), ?energised, ?blocked, ?asked, oswAfter_jds s⟩
  case energised =>
    intro hothers hgreen hinjector hfreed
    refine oswAfter_energises honly hrelease henter (mayEnergise_iff.mpr ⟨hphase, othersOpen_iff.mpr hothers, ?_⟩)
    exact ⟨fun h => greenPermitted_iff.mpr (hgreen h), hinjector, hfreed⟩
  case blocked =>
    intro hblocked
    have hmay : mayEnergise s e = false := by
      rw [Bool.eq_false_iff, ne_eq, mayEnergise_iff]
      rintro ⟨-, hothers, hpermitted, hinjector, hfreed⟩
      obtain ⟨hgreen, g, hconflict, hnot⟩ | hpos | hwait | ⟨o, hgroup, hne, hfit, hwant, hbreak⟩ := hblocked
      · exact hnot (greenPermitted_iff.mp (hpermitted hgreen) g hconflict)
      · exact hinjector hpos
      · exact hfreed hwait
      · obtain ⟨hoopen, holong⟩ := othersOpen_iff.mp hothers o hgroup hne hfit hwant
        obtain hnot | ⟨x, hx, hshort⟩ := hbreak
        · exact hnot hoopen
        · exact absurd (holong x hx) (by omega)
    have hasks := askCircuit_asks e s
    rw [relayAt_oswAfter, switched_of_waits honly hrelease hmay, hasks.coil, hasks.entering]
    exact ⟨hoff, henter⟩
  case asked =>
    intro hpos hasked
    have hmay : mayEnergise s e = false := by
      rw [Bool.eq_false_iff, ne_eq, mayEnergise_iff]
      exact fun ⟨_, _, _, hinjector, _⟩ => hinjector hpos
    have hmust : MustAsk s e := ⟨henter, hpos, hasked⟩
    obtain ⟨hnone, hreleases, habandoned⟩ := askCircuit_released hmust
    have hswitched := switched_of_waits honly hrelease hmay
    obtain ⟨hcbl, hmea⟩ := oswAfter_of_no_test (by rw [hswitched, hnone])
    rw [hswitched] at hcbl hmea
    rw [relayAt_oswAfter, hswitched]
    refine ⟨releaseAsked_of_must hmust, fun w hw => (habandoned w hw).congr rfl rfl hcbl hmea, fun m hm => ?_,
      fun m a hm => ?_⟩
    · rw [hcbl]
      exact hreleases.of_on e m hm
    · rw [hcbl]
      exact hreleases.of_not_on (by simp [hm])

end Sys2Proof.Proofs
end

section
/-! PROOF. A command of a relay, a group command, the change of phase and the conflict conditions (R88, R93 to R98,
R103), and `Obligations.RelayCommandsMoveRelays` from them. -/

namespace Sys2Proof.Machine

variable {s : State} {c : Circuit} {g : Group} {st : GState}

/-! ### A group command (R97, R98) -/

/-- R97: the command is stored. -/
def store (g : Group) (st : GState) (s : State) : State :=
  s.onOsw fun o => { o with stored := o.stored.set g st }

theorem groupCommand_of_off (h : s.osw.phase = .outputsOff ∨ s.osw.phase = .contactorRelease) :
    groupCommand g st s = store g st s := if_neg (by rcases h with h | h <;> simp [h])

theorem groupCommand_of_acts (h : s.osw.phase = .redsFirst ∨ s.osw.phase = .live) :
    groupCommand g st s = oswAfter (act g (store g st s)) := if_pos (by simpa using h)

theorem groupCommand_jds (g : Group) (st : GState) (s : State) : (groupCommand g st s).jds = s.jds := by
  obtain ⟨-, hjds, -⟩ := (groupCommand_drives g st s).frame
  exact hjds

theorem wanted_store (h : groupOf c = g) :
    wanted (store g st s) c = (s.jds.fitted c && st.wants (aspectOf c)) := by
  subst h
  exact congrArg (fun x : GState => s.jds.fitted c && x.wants (aspectOf c)) (Tab.get_set_same ..)

theorem redsCheck_stored (s : State) : (redsCheck s).osw.stored = s.osw.stored := by
  obtain ⟨p, k, x, q, hreds⟩ := redsCheck_frame s
  rw [hreds]

theorem oswAfter_stored (hphase : s.osw.phase ≠ .contactorRelease) : (oswAfter s).osw.stored = s.osw.stored := by
  obtain ⟨f, hosw⟩ := oswAfter_osw s
  calc (oswAfter s).osw.stored
      = (redsCheck (switched s)).osw.stored := by rw [hosw]
    _ = s.osw.stored := by
      rw [redsCheck_stored, switched_of_phase hphase, (asked_asks _).stored, (judged_switches s).stored]

/-- R98: a circuit that is on and not wanted leaves; one that is on and wanted stays; one that is off enters or not. -/
theorem Relay.act_leaves {r : Relay} (h : r.coil.commanded = true) (now : Stamp) (tm : TimingRec) :
    (r.act false now tm).coil.commanded = false ∧ (r.act false now tm).entering = false := by
  simp [Relay.act, h]

theorem Relay.act_stays {r : Relay} (h : r.coil.commanded = true) (now : Stamp) (tm : TimingRec) :
    r.act true now tm = r := by
  simp [Relay.act, h]

theorem Relay.act_off {r : Relay} (h : r.coil.commanded = false) (wants : Bool) (now : Stamp) (tm : TimingRec) :
    r.act wants now tm = { r with entering := wants } := by
  simp [Relay.act, h]

section
variable (hphase : s.osw.phase = .redsFirst ∨ s.osw.phase = .live)
include hphase

theorem acted_phase (g : Group) (st : GState) : (act g (store g st s)).osw.phase ≠ .contactorRelease := by
  rw [(act_switches g _).phase]
  change s.osw.phase ≠ _
  rcases hphase with h | h <;> simp [h]

/-- R98: a relay section that acting on the command leaves not entering is what the command makes of it. -/
theorem relayAt_groupCommand (h : (relayAt (act g (store g st s)) c).entering = false) :
    relayAt (groupCommand g st s) c = relayAt (act g (store g st s)) c := by
  rw [groupCommand_of_acts hphase, oswAfter_of_not_entering (acted_phase hphase g st) h]

/-- R97, R98: the circuit `c` of the group, by whether it is commanded on and whether it is wanted. -/
theorem groupCommand_circuit (hc : groupOf c = g) {wants : Bool} (hw : wanted (store g st s) c = wants) :
    let r := relayAt s c
    let u := groupCommand g st s
    (r.coil.commanded = true → wants = false →
      (relayAt u c).coil.commanded = false ∧ (relayAt u c).entering = false) ∧
    (r.coil.commanded = true → wants = true → r.entering = false → relayAt u c = r) ∧
    (r.coil.commanded = false → wants = true → (relayAt u c).Energising) ∧
    (r.coil.commanded = false → wants = false → relayAt u c = { r with entering := false }) := by
  have hact : relayAt (act g (store g st s)) c = (relayAt s c).act wants s.stamp s.jds.timing := by
    rw [relayAt_act, if_pos hc, hw]
    rfl
  have heq := relayAt_groupCommand hphase (g := g) (st := st) (c := c)
  rw [hact] at heq
  refine ⟨fun hon hwants => ?leaves, fun hon hwants hnot => ?stays, fun hoff hwants => ?enters, fun hoff hwants => ?out⟩
  case leaves =>
    subst hwants
    have hleaves := Relay.act_leaves hon s.stamp s.jds.timing
    rwa [heq hleaves.2]
  case stays =>
    subst hwants
    rw [Relay.act_stays hon] at heq
    exact heq hnot
  case enters =>
    subst hwants
    rw [groupCommand_of_acts hphase]
    refine oswAfter_energising (acted_phase hphase g st) ?_
    rw [hact, Relay.act_off hoff]
    exact .inl ⟨rfl, hoff⟩
  case out =>
    subst hwants
    rw [Relay.act_off hoff] at heq
    exact heq rfl

/-- R98: the circuits of the other groups. -/
theorem groupCommand_other (hc : groupOf c ≠ g) (h : (relayAt s c).entering = false) :
    relayAt (groupCommand g st s) c = relayAt s c := by
  have hact : relayAt (act g (store g st s)) c = relayAt s c := by
    rw [relayAt_act, if_neg hc]
    rfl
  rw [relayAt_groupCommand hphase (by rw [hact, h]), hact]

/-- R159: a test on a circuit on its way is abandoned. -/
theorem groupCommand_abandons {w : Test} (hw : s.cbl.test = some w)
    (h : (relayAt (groupCommand g st s) w.circuit).Energising) : Abandoned s w (groupCommand g st s) := by
  have hswitches := act_switches g (store g st s)
  rw [groupCommand_of_acts hphase] at h ⊢
  have habandoned : Abandoned (act g (store g st s)) w (oswAfter (act g (store g st s))) := by
    refine oswAfter_abandons (by rw [hswitches.cbl]; exact hw) ?_
    obtain ⟨henter, -⟩ | ⟨-, -, hnot⟩ := h
    · exact .inl henter
    · exact .inr hnot
  exact habandoned.congr hswitches.cbl.symm hswitches.mea.symm rfl rfl

theorem groupCommand_stored : (groupCommand g st s).osw.stored = s.osw.stored.set g st := by
  rw [groupCommand_of_acts hphase, oswAfter_stored (acted_phase hphase g st), (act_switches g _).stored]
  rfl

end

/-! ### REDS-FIRST (R93, R94) -/

/-- R94: a red that is CLOSED is so still after the switching and the asks. -/
theorem switched_reds (hphase : s.osw.phase = .redsFirst) (h : redsClosed s = true) :
    (switched s).osw.phase = .redsFirst ∧ redsClosed (switched s) = true := by
  have hjudged := judged_switches s
  have hasks := asked_asks (forEach judgeCircuit s)
  have stays (c : Circuit) (hc : relayState s c = .closed) : relayState (forEach judgeCircuit s) c = .closed := by
    refine forEach_keeps (P := fun t => relayState t c = .closed) (fun d t ht => ?_) hc
    unfold relayState
    rw [relayAt_judgeCircuit]
    split
    · unfold Relay.command
      split
      · exact ht
      · exact Coil.command_on_of_closed _ _ ht
    · exact ht
  rw [switched_of_phase (by simp [hphase]), redsClosed_iff, hasks.phase, hjudged.phase]
  refine ⟨hphase, fun c hred hfit => ?_⟩
  rw [hasks.jds, hjudged.jds] at hfit
  rw [hasks.relayState, stays c (redsClosed_iff.mp h c hred hfit)]

/-- R94: the phase is LIVE and the contactor commanded on. -/
theorem oswAfter_live (hphase : s.osw.phase = .redsFirst) (h : redsClosed s = true) :
    (oswAfter s).osw.phase = .live ∧ (oswAfter s).osw.contactor.commanded = true := by
  obtain ⟨hswitched, hreds⟩ := switched_reds hphase h
  obtain ⟨f, hosw⟩ := oswAfter_osw s
  obtain ⟨k, x, q, hon, hcontactor⟩ := commandContactor_frame true (enterPhase .live (switched s))
  rw [hosw, redsCheck_of_closed hswitched hreds, hcontactor]
  exact ⟨rfl, hon⟩

/-- R93: and not before. -/
theorem oswAfter_redsFirst (hphase : s.osw.phase = .redsFirst) (hnone : ∀ c, (relayAt s c).entering = false)
    (h : redsClosed s = false) :
    (oswAfter s).osw.phase = .redsFirst ∧ (oswAfter s).osw.contactor = s.osw.contactor := by
  have hswitched : switched s = s := by
    rw [switched_of_phase (by simp [hphase]), forEach_idle fun c => judgeCircuit_of_waits (.inl (hnone c))]
    exact forEach_idle fun c => askCircuit_of_not fun hask => Bool.noConfusion (hask.1.symm.trans (hnone c))
  obtain ⟨f, hosw⟩ := oswAfter_osw s
  rw [hosw, hswitched, redsCheck_of_not (.inr h)]
  exact ⟨hphase, rfl⟩

/-! ### OUTPUTS-OFF after the dark sequence (R95, R96) -/

/-- R95: with the outputs off nothing is energised, and the phase stays. -/
theorem oswAfter_outputsOff (hphase : (darkCheck s).osw.phase = .outputsOff) (c : Circuit) :
    (oswAfter s).osw.phase = .outputsOff ∧
    (relayAt (oswAfter s) c).coil.commanded = (relayAt (darkCheck s) c).coil.commanded := by
  have hjudged : forEach judgeCircuit (darkCheck s) = darkCheck s := by
    refine forEach_idle fun d => judgeCircuit_of_waits (.inr ?_)
    rw [Bool.eq_false_iff, ne_eq, mayEnergise_iff, hphase]
    rintro ⟨h | h, -⟩ <;> cases h
  have hasks := asked_asks (darkCheck s)
  have hswitched : switched s = forEach askCircuit (darkCheck s) := by rw [switched, hjudged]
  have hoff : (switched s).osw.phase = .outputsOff := by rw [hswitched, hasks.phase, hphase]
  obtain ⟨f, hosw⟩ := oswAfter_osw s
  rw [relayAt_oswAfter, hosw, redsCheck_of_not (.inl (by simp [hoff])), hoff, hswitched, hasks.coil]
  exact ⟨rfl, rfl⟩

end Sys2Proof.Machine

namespace Sys2Proof.Proofs

open Sys2Proof Sys2Proof.Machine

/-- Settles O48. A relay command is `Coil.command_table` with `Coil.command_settles`; a group command is
`groupCommand_circuit` circuit by circuit; the phases are `oswAfter_live`, `oswAfter_redsFirst`, `completeDark_phase`
and `oswAfter_outputsOff`; the conflict monitor is `oswAfter_conflict` and `conflictGroup_eq`. -/
theorem relayCommandsMoveRelays : Obligations.RelayCommandsMoveRelays := by
  unfold Obligations.RelayCommandsMoveRelays
  refine ⟨?relay, ?group, ?reds, ?dark, ?conflict, ?monitor⟩
  case relay =>
    intro c on s hchange k u r
    have hu : u = _ := if_neg hchange
    obtain ⟨hrelay, hflt, hothers, -, hjds, hseq⟩ := relayTo_frame c (k.command on s.stamp s.jds.timing)
      (onRelay c (fun x => { x with switchCount := x.switchCount + 1 }) s)
    obtain ⟨hcommanded, hfeedback⟩ := k.command_frame on s.stamp s.jds.timing
    have hsettles := Coil.command_settles on s.stamp s.jds.timing (k := k)
    rw [show r = _ from Coil.command_table _ _ _ on s.stamp s.jds.timing k, hu, hrelay, relayAt_onRelay_same]
    refine ⟨hcommanded, rfl, rfl, hfeedback, fun h hne => (hsettles fun hk => hne (hk.symm.trans h)).closing h,
      fun h hne => (hsettles fun hk => hne (hk.symm.trans h)).opening h, fun h hne => (hsettles hne).proven h, hflt,
      fun e he => ?_, hjds, hseq, ?_⟩
    · rw [hothers e he, relayAt_onRelay, if_neg he.symm]
    · rw [relayTo_eq]
      rfl
  case group =>
    intro g st s u
    refine ⟨?stored, groupCommand_jds g st s, ?commanded, fun hoff => groupCommand_of_off hoff, ?acts⟩
    case stored =>
      by_cases hphase : s.osw.phase = .redsFirst ∨ s.osw.phase = .live
      · exact groupCommand_stored hphase
      · have hoff : s.osw.phase = .outputsOff ∨ s.osw.phase = .contactorRelease := by
          cases hp : s.osw.phase <;> simp [hp] at hphase ⊢
        rw [show u = store g st s from groupCommand_of_off hoff]
        rfl
    case commanded => rw [groupCommand_leavesSeq g st s]
    case acts =>
      intro hphase aspects wants
      refine ⟨fun c hc => ?_, fun c hc hnot => groupCommand_other hphase hc hnot⟩
      have hwants : wanted (store g st s) c = true ↔ wants c := by
        rw [wanted_store hc, Bool.and_eq_true]
        refine and_congr_right fun _ => ?_
        cases st <;> simp [aspects, GState.wants]
      obtain ⟨hleaves, hstays, henters, hout⟩ := groupCommand_circuit hphase hc rfl (st := st)
      refine ⟨fun hon hnot => hleaves hon (Bool.eq_false_iff.mpr fun h => hnot (hwants.mp h)),
        fun hon hw hnot => hstays hon (hwants.mpr hw) hnot, fun hoff hw => ?enters, fun hoff hnot => ?out⟩
      case enters =>
        have henergising := henters hoff (hwants.mpr hw)
        refine ⟨?_, fun w hw hwc => groupCommand_abandons hphase hw (hwc ▸ henergising)⟩
        obtain ⟨henter, hcommanded⟩ | ⟨henter, hcommanded, -⟩ := henergising
        all_goals rw [henter, hcommanded]; rfl
      case out =>
        rw [hout hoff (Bool.eq_false_iff.mpr fun h => hnot (hwants.mp h))]
        exact ⟨rfl, rfl⟩
  case reds =>
    intro s hphase
    refine ⟨fun h => oswAfter_live hphase (redsClosed_iff.mpr h), fun hnone ⟨c, hred, hfit, hnot⟩ => ?_⟩
    refine oswAfter_redsFirst hphase hnone ?_
    rw [Bool.eq_false_iff, ne_eq, redsClosed_iff]
    exact fun h => hnot (h c hred hfit)
  case dark =>
    intro s hphase
    refine ⟨fun h => ?_, darkCheck_of_contactor⟩
    have hdark := darkCheck_of_release hphase h
    rw [hdark, completeDark_phase]
    refine ⟨fun c => completeDark_commanded c s, fun hmode hopen => if_pos (restartsBehind_iff.mpr ⟨hopen, hmode⟩),
      fun hstays => ?_⟩
    have hbehind : ¬restartsBehind s = true := by
      rw [restartsBehind_iff]
      rintro ⟨hopen, hmode⟩
      obtain hfailed | ⟨hup, hred⟩ := hstays
      · exact RelayState.noConfusion (hopen.symm.trans hfailed)
      · exact hmode.elim hup hred
    have hoff : (darkCheck s).osw.phase = .outputsOff := by rw [hdark, completeDark_phase, if_neg hbehind]
    refine ⟨if_neg hbehind, (oswAfter_outputsOff hoff 0).1, fun c => ?_⟩
    rw [(oswAfter_outputsOff hoff c).2, hdark, completeDark_commanded]
  case conflict =>
    intro g s t
    rw [oswAfter_conflict, conflictNow_iff, oswAfter_jds]
  case monitor =>
    intro g s now
    have hnow : now = conflictNow s g := by
      simp only [now, conflictGroup_eq]
      exact Tab.get_set_same ..
    rw [hnow]
    exact conflictGroup_eq g s

end Sys2Proof.Proofs
end

section
/-! PROOF. What FLT's events and the placing of measurements leave of MEA: the events at most its CBL slot, by a
withdrawal (R160), and the placing the OFFSET's due flag, once it is down (R115). -/

namespace Sys2Proof.Machine

variable {s t u : State}

/-! ### Withdrawals from the CBL slot alone -/

/-- MEA is as before, its CBL slot apart. -/
def LeavesMea (s t : State) : Prop := t.mea = { s.mea with cbl := t.mea.cbl }

namespace LeavesMea

theorem of_eq (h : t.mea = s.mea) : LeavesMea s t := by rw [LeavesMea, h]

theorem refl (s : State) : LeavesMea s s := rfl

theorem trans (h1 : LeavesMea s t) (h2 : LeavesMea t u) : LeavesMea s u := by
  unfold LeavesMea at *
  rw [h2]
  rw [h1]

theorem ite {p : Prop} [Decidable p] (ht : LeavesMea s t) (hu : LeavesMea s u) : LeavesMea s (if p then t else u) := by
  split <;> assumption

theorem foldl {α : Type} {f : State → α → State} (hf : ∀ t a, LeavesMea t (f t a)) (l : List α) (s : State) :
    LeavesMea s (l.foldl f s) := by
  induction l generalizing s with
  | nil => exact refl s
  | cons a l ih => exact (hf s a).trans (ih _)

theorem forEach {n : Nat} {f : Fin n → State → State} (hf : ∀ i t, LeavesMea t (f i t)) (s : State) :
    LeavesMea s (Machine.forEach f s) := foldl (fun t i => hf i t) _ s

theorem dueOffset (h : LeavesMea s t) : t.mea.dueOffset = s.mea.dueOffset := by rw [h]

end LeavesMea

theorem commandRelease_leavesMea (b : Bool) (s : State) : LeavesMea s (commandRelease b s) := by
  obtain ⟨_, h⟩ := commandRelease_cbl b s
  exact .of_eq (by rw [h])

theorem abandon_leavesMea (s : State) : LeavesMea s (abandon s) := by
  unfold abandon
  split
  · exact .refl s
  · have withdrawn (t : State) : LeavesMea t (withdraw .cbl t) := .ite rfl rfl
    exact (commandRelease_leavesMea false s).trans (withdrawn _)

theorem cblWatch_leavesMea (s : State) : LeavesMea s (cblWatch s) := by
  unfold cblWatch
  split
  · exact .refl s
  · exact .ite (abandon_leavesMea s) (.refl s)

theorem askCircuit_leavesMea (c : Circuit) (s : State) : LeavesMea s (askCircuit c s) :=
  .ite (.trans (t := abandon (noteAsk c s)) (abandon_leavesMea (noteAsk c s)) (commandRelease_leavesMea _ _)) (.refl s)

theorem oswAfter_leavesMea (s : State) : LeavesMea s (oswAfter s) := by
  obtain ⟨-, hdark⟩ := darkCheck_frame s
  obtain ⟨-, -, hmonitored⟩ := monitored_frame (switched s)
  have hswitched : LeavesMea s (switched s) :=
    .trans (.of_eq ((judged_switches _).mea.trans hdark)) (.forEach askCircuit_leavesMea _)
  rw [oswAfter_eq]
  exact hswitched.trans (.trans (.of_eq hmonitored) (cblWatch_leavesMea _))

theorem groupCommand_leavesMea (g : Group) (st : GState) (s : State) : LeavesMea s (groupCommand g st s) :=
  .ite (.trans (.of_eq (act_switches g (store g st s)).mea) (oswAfter_leavesMea _)) rfl

theorem oswMode_leavesMea (m : Mode) (s : State) : LeavesMea s (oswMode m s) := by
  cases m with
  | startUp =>
    have acted := Switches.forEach act_switches (enterPhase .redsFirst s)
    exact .ite (.trans (.of_eq acted.mea) (oswAfter_leavesMea _)) rfl
  | dark =>
    have started : LeavesMea s (darkStart s) := by
      unfold darkStart
      generalize hv : State.onOsw _ s = v
      obtain ⟨_, _, _, -, h⟩ := commandContactor_frame false v
      exact .of_eq (by rw [h, ← hv]; rfl)
    exact .ite (started.trans (oswAfter_leavesMea _)) rfl
  | _ => rfl

/-! ### SEQ's answer to a change of junction mode -/

theorem commitEntry_leavesMea (a : Option Stage) (o : Occasion) (s : State) : LeavesMea s (commitEntry a o s) := by
  obtain ⟨_, _, _, -, htake⟩ := takePlan_eq o s
  have taken : LeavesMea s (startMaximum (takePlan o s)) := .trans (.of_eq (by rw [htake])) (.ite rfl (.refl _))
  exact taken.trans (cblWatch_leavesMea (State.onSeq _ _))

theorem stopCurrent_leavesMea (s : State) : LeavesMea s (stopCurrent s) := by
  unfold stopCurrent
  split
  · exact .refl s
  · exact .of_eq (by rw [repost, apply_ite State.mea]; exact ite_self _)

theorem seqStart_leavesMea (s : State) : LeavesMea s (seqStart s) := by
  have reddened (g : Group) (t : State) : LeavesMea t (redGroup g t) :=
    .ite (groupCommand_leavesMea g .red (t.onSeq _)) (.refl t)
  unfold seqStart
  generalize hv : State.onSeq _ s = v
  exact .trans (.of_eq (by rw [← hv]; rfl)) (.forEach reddened v)

theorem seqAllRed_leavesMea (s : State) : LeavesMea s (seqAllRed s) := by
  have emptied (t : State) : LeavesMea t (emptyTarget t) := by
    unfold emptyTarget
    split
    · exact cblWatch_leavesMea (t.onSeq _)
    · exact .refl t
  have terminated (t : State) : LeavesMea t (terminate t) := .ite (commitEntry_leavesMea none .commit t) (.refl t)
  have dropped : LeavesMea s (s.onSeq fun q => { q with pendingAdvance := none }) := rfl
  exact .ite (dropped.trans (emptied _)) (dropped.trans (terminated _))

theorem seqEnd_leavesMea (s : State) : LeavesMea s (seqEnd s) := by
  have running : LeavesMea s (if inDemandPlan s then s else s.onSeq fun q => { q with substate := some .running }) :=
    .ite (.refl s) rfl
  exact .ite (running.trans (commitEntry_leavesMea _ _ _)) (.refl s)

theorem seqMode_leavesMea (prev new : Mode) (s : State) : LeavesMea s (seqMode prev new s) := by
  unfold seqMode
  split
  · exact stopCurrent_leavesMea s
  · exact stopCurrent_leavesMea s
  · exact seqStart_leavesMea s
  · exact seqAllRed_leavesMea s
  · exact seqEnd_leavesMea s
  · exact commitEntry_leavesMea none .resume (noStage s)
  · exact .refl s

/-! ### FLT takes its events -/

theorem changeMode_leavesMea (new : Mode) (cause : ModeCause) (s : State) : LeavesMea s (changeMode new cause s) := by
  have entered : LeavesMea s (if new = .dark then setAside (s.onFlt fun f => { f with mode := new })
      else s.onFlt fun f => { f with mode := new }) := .ite rfl rfl
  have handed := (entered.trans (seqMode_leavesMea s.flt.mode new _)).trans (oswMode_leavesMea new _)
  exact .ite (p := (s.flt.mode = .dark && new = .startUp) = true) (t := lmpRestart _) handed handed

theorem startUp_leavesMea (cause : ModeCause) (s : State) : LeavesMea s (startUp cause s) := by
  have cleared (t : State) : LeavesMea t (clearStandIns t) :=
    .foldl (fun v (e : FEntry) => .of_eq (t := clearEntry e.kind e.subject v) rfl) _ t
  have started := (changeMode_leavesMea .startUp cause s).trans (cleared _)
  unfold startUp
  simp only
  split
  · exact .ite (started.trans (changeMode_leavesMea _ _ _)) started
  · exact started

theorem fltTake_leavesMea (e : FltEvent) (s : State) : LeavesMea s (fltTake e s) := by
  cases e with
  | raise k j d =>
    have responded (r : Response) (t : State) : LeavesMea t (respond r k j t) :=
      .ite (.ite rfl (.refl t)) (.ite (changeMode_leavesMea _ _ (t.onFlt _)) (changeMode_leavesMea _ _ t))
    have recorded : LeavesMea s (record k j s).2 := .of_eq (by rw [(record_eq k j s).1])
    exact recorded.trans (responded _ (post .faultRaised true j.report _ (record k j s).2))
  | clear k j =>
    change LeavesMea s (takeClear k j s)
    unfold takeClear
    split
    · exact rfl
    · split
      · exact .ite (startUp_leavesMea .autoRestart (clearEntry k j s)) rfl
      · exact rfl
      · exact .refl s
  | passed k j =>
    have passed (k : FaultKind) (t : State) : LeavesMea t (passEntry k j t) := .ite rfl (.refl t)
    exact .ite ((passed k s).trans (passed _ _)) (passed k s)
  | firstInterstage => exact .ite (changeMode_leavesMea _ _ s) (.refl s)

theorem drain_leavesMea (n : Nat) (s : State) : LeavesMea s (drain n s) := by
  induction n generalizing s with
  | zero => exact rfl
  | succ n ih =>
    unfold drain
    split
    · exact .refl s
    · exact (fltTake_leavesMea _ (s.onFlt _)).trans (ih _)

/-! ### The OFFSET's due flag (R115, R117) -/

/-- No OFFSET request is due. -/
def OffsetNotDue (s : State) : Prop := s.mea.dueOffset = false

namespace OffsetNotDue

theorem ite {p : Prop} [Decidable p] (ht : OffsetNotDue t) (hu : OffsetNotDue u) :
    OffsetNotDue (if p then t else u) := by
  split <;> assumption

theorem place (i : MSlot) (r : Req) (h : OffsetNotDue s) : OffsetNotDue (place i r s) := by
  refine .ite ?_ h
  cases i <;> exact h

theorem placeProof (h : OffsetNotDue s) : OffsetNotDue (placeProof s) := by
  unfold Machine.placeProof
  refine .ite h ?_
  split
  · exact h.place _ _
  · exact h

theorem placeRoutine (h : OffsetNotDue s) : OffsetNotDue (placeRoutine s) := by
  have off (c : Circuit) : OffsetNotDue (placeOffCheck c s) := place (s := s.onLmp _) _ _ h
  have evaluation (c : Circuit) : OffsetNotDue (placeEvaluation c s) := place (s := s.onLmp _) _ _ h
  unfold Machine.placeRoutine
  refine .ite h ?_
  simp only
  split
  · exact .ite (off _) (evaluation _)
  · exact evaluation _
  · exact off _
  · exact h

theorem startTest (h : OffsetNotDue s) : OffsetNotDue (startTest s) := by
  unfold Machine.startTest
  refine .ite h ?_
  split <;> exact h

theorem placeCbl (h : OffsetNotDue s) : OffsetNotDue (placeCbl s) := by
  unfold Machine.placeCbl
  split
  · exact h
  · split
    · exact h
    · exact .ite h (place (s := s.onCbl _) _ _ h)

theorem placeDiag (h : OffsetNotDue s) : OffsetNotDue (placeDiag s) :=
  .ite h <| .ite (place (s := s.onMea _) _ _ h) <| .ite (place (s := s.onMea _) _ _ h) <|
    .ite (place (s := s.onMea _) _ _ rfl) h

theorem grant (n : Nat) (h : OffsetNotDue s) : OffsetNotDue (grant n s) := by
  unfold Machine.grant
  refine .ite h ?_
  split
  · exact h
  · next i _ =>
    split
    · exact h
    · cases i <;> exact h

theorem settle (h : OffsetNotDue s) : OffsetNotDue (settle s) := by
  have drained : OffsetNotDue (drain eventFuel s) := (drain_leavesMea _ s).dueOffset.trans h
  exact drained.placeProof.placeRoutine.startTest.placeCbl.placeDiag.grant 0

end OffsetNotDue

end Sys2Proof.Machine
end

section
/-! PROOF. What a conversion delivers to MEA's own channels, and what the other readers and all that follows leave of
MEA's readings (R110, R113, R116 to R121), and `Obligations.ConversionDelivers` from it. -/

namespace Sys2Proof.Machine

variable {s t u : State} {m n : Mea}

/-! ### What FLT is handed -/

theorem onChange_eq (was now : Bool) (k : FaultKind) (j : Subject) (s : State) : onChange was now k j s = { s with
    flt := { s.flt with inbox := s.flt.inbox ++ edge was now (.raise k j 0xFF) (.clear k j) } } := by
  unfold onChange edge
  cases was <;> cases now
  · simp
  · rfl
  · rfl
  · simp

@[simp] theorem edge_self (b : Bool) (x y : FltEvent) : edge b b x y = [] := by cases b <;> rfl

/-- R119, R121: what FLT hears as MEA's conditions go from those of `m` to those of `n`. -/
def Mea.faultEvents (m n : Mea) : List FltEvent :=
  edge (m.offCond || m.refCond) (n.offCond || n.refCond) (.raise .measurementFault .none 0xFF)
      (.clear .measurementFault .none) ++
    edge m.lossCond n.lossCond (.raise .supplyLoss .none 0xFF) (.clear .supplyLoss .none)

/-! ### A reading taken by its channel's reader (R116 to R121) -/

/-- R116, R117: MEA after an OFFSET reading, judged only with the bypass off and not made void (log 30). -/
def Mea.offsetTaken (r : Nat) (m : Mea) : Mea :=
  if m.bypass.isSome || m.offVoid then { m with offVoid := false } else Mea.offsetReading r { m with offVoid := false }

/-- MEA after a reading of this channel. -/
def Mea.taken (ch : Channel) (nominal r : Nat) (m : Mea) : Mea :=
  match ch with
  | .supply => m.supplyReading nominal r
  | .ref => m.refReading r
  | .offset => m.offsetTaken r
  | _ => m

/-- A reading has nothing to do with the slots, the conversion in flight and the due flags. -/
theorem Mea.Same.taken (h : m.Same n) (ch : Channel) (nominal r : Nat) :
    (m.taken ch nominal r).Same (n.taken ch nominal r) := by
  unfold Mea.Same at h
  rw [h]
  cases ch with
  | offset =>
    simp only [Mea.taken, Mea.offsetTaken]
    split <;> rfl
  | _ => rfl

theorem takeSupply_eq (r : Nat) (s : State) : ∃ l, takeSupply r s = { s with
    mea := s.mea.supplyReading s.jds.timing.nominal r
    lmp := l
    flt := { s.flt with inbox := s.flt.inbox ++ s.mea.faultEvents (s.mea.supplyReading s.jds.timing.nominal r) } } := by
  obtain ⟨l, hwatch⟩ := lmpWatch_eq (s.onMea (Mea.supplyReading s.jds.timing.nominal r))
  refine ⟨l, ?_⟩
  have hfault : s.mea.faultEvents (s.mea.supplyReading s.jds.timing.nominal r) =
      edge s.mea.lossCond (s.mea.supplyReading s.jds.timing.nominal r).lossCond (.raise .supplyLoss .none 0xFF)
        (.clear .supplyLoss .none) := by
    simp [Mea.faultEvents, Mea.supplyReading]
  rw [hfault, takeSupply, hwatch, onChange_eq]
  rfl

theorem takeRef_eq (r : Nat) (s : State) : takeRef r s = { s with
    mea := s.mea.refReading r
    flt := { s.flt with inbox := s.flt.inbox ++ s.mea.faultEvents (s.mea.refReading r) } } := by
  simp [takeRef, measurementFault, onChange_eq, Mea.faultEvents, Mea.refReading, State.onMea]

theorem takeOffset_eq (r : Nat) (s : State) : takeOffset r s = { s with
    mea := s.mea.offsetTaken r
    flt := { s.flt with inbox := s.flt.inbox ++ s.mea.faultEvents (s.mea.offsetTaken r) } } := by
  unfold takeOffset Mea.offsetTaken
  by_cases h : (s.mea.bypass.isSome || s.mea.offVoid) = true
  · simp [h, Mea.faultEvents, State.onMea]
  · simp [h, measurementFault, onChange_eq, Mea.faultEvents, Mea.offsetReading, State.onMea]

/-- R113: the delivery to one of MEA's own readers, and what it hands to FLT. -/
theorem deliver_own {x : Result} (h : x.req.channel = .supply ∨ x.req.channel = .ref ∨ x.req.channel = .offset)
    (s : State) : ∃ l, deliver x s = { s with
      mea := s.mea.taken x.req.channel s.jds.timing.nominal x.count
      lmp := l
      flt := { s.flt with
        inbox := s.flt.inbox ++ s.mea.faultEvents (s.mea.taken x.req.channel s.jds.timing.nominal x.count) } } := by
  rcases h with h | h | h
  · simp only [deliver, h]
    exact takeSupply_eq x.count s
  · simp only [deliver, h]
    exact ⟨s.lmp, takeRef_eq x.count s⟩
  · simp only [deliver, h]
    exact ⟨s.lmp, takeOffset_eq x.count s⟩

/-! ### What leaves MEA's readings as they are -/

/-- MEA's readings, runs and conditions in `t` are those of `m`; the uptime, the description and the detectors are
those of `s`. -/
structure ReadsAs (m : Mea) (s t : State) : Prop where
  mea : m.Same t.mea
  uptime : t.uptime = s.uptime
  jds : t.jds = s.jds
  det : t.det = s.det

/-- `t` has the readings, runs and conditions of `s`. -/
def KeepsReadings (s t : State) : Prop := ReadsAs s.mea s t

theorem Mea.Same.trans {k : Mea} (h1 : m.Same n) (h2 : n.Same k) : m.Same k := by
  unfold Mea.Same at *
  rw [h2]
  rw [h1]

theorem ReadsAs.kept (h1 : ReadsAs m s t) (h2 : KeepsReadings t u) : ReadsAs m s u :=
  ⟨h1.mea.trans h2.mea, h2.uptime.trans h1.uptime, h2.jds.trans h1.jds, h2.det.trans h1.det⟩

namespace KeepsReadings

theorem refl (s : State) : KeepsReadings s s := ⟨rfl, rfl, rfl, rfl⟩

theorem trans (h1 : KeepsReadings s t) (h2 : KeepsReadings t u) : KeepsReadings s u := ReadsAs.kept h1 h2

theorem ite {p : Prop} [Decidable p] (ht : KeepsReadings s t) (hu : KeepsReadings s u) :
    KeepsReadings s (if p then t else u) := by
  split <;> assumption

theorem of_responds (h : Responds s t) : KeepsReadings s t := by
  obtain ⟨huptime, hjds, hdet, -, -⟩ := h.frame
  obtain ⟨-, hmea, -⟩ := h.same
  exact ⟨hmea, huptime, hjds, hdet⟩

theorem of_drives (h : Drives s t) : KeepsReadings s t := of_responds (.drives h)

theorem lmp (s : State) (f : Lmp → Lmp) : KeepsReadings s (s.onLmp f) := ⟨rfl, rfl, rfl, rfl⟩

theorem cbl (s : State) (f : Cbl → Cbl) : KeepsReadings s (s.onCbl f) := ⟨rfl, rfl, rfl, rfl⟩

end KeepsReadings

/-- A condition's events, handed to FLT where they arise. -/
theorem Drives.tell (p : Prop) [Decidable p] (e : FltEvent) (s : State) : Drives s (if p then toFlt e s else s) :=
  .ite (.event s e) (.refl s)

theorem lampFaults_drives (c : Circuit) (x y : Lamp) (detail : Byte) (s : State) :
    Drives s (lampFaults c x y detail s) := by
  unfold lampFaults
  simp only
  refine .trans ?overcurrent (onChange_drives _ _ _ _ _)
  refine .trans ?_ (.tell _ (.raise .lampOut (.circuit c) detail) _)
  refine .trans ?_ (.tell _ (.raise .lampDegraded (.circuit c) noDetail) _)
  refine .trans ?_ (.tell _ (.clear .lampOut (.circuit c)) _)
  refine .trans ?_ (.tell _ (.clear .lampDegraded (.circuit c)) _)
  exact .ite (.event s _) (.tell _ (.clear .redOut (.group (groupOf c))) s)

theorem lampPassed_drives (c : Circuit) (y : Lamp) (s : State) : Drives s (lampPassed c y s) := by
  unfold lampPassed
  simp only
  refine .trans ?_ (.tell _ (.passed .lampOvercurrent (.circuit c)) _)
  refine .trans ?_ (.tell _ (.passed .lampOut (.circuit c)) _)
  refine .trans ?_ (.tell _ (.passed .lampDegraded (.circuit c)) _)
  exact .tell _ (.passed .redOut (.group (groupOf c))) s

theorem takeEvaluation_keepsReadings (c : Circuit) (count : BitVec 16) (r : Nat) (s : State) :
    KeepsReadings s (takeEvaluation c count r s) := by
  have enters (t : State) : KeepsReadings t (enterOut c t) := ⟨rfl, rfl, rfl, rfl⟩
  unfold takeEvaluation
  simp only
  refine .trans ?_ (.ite (.of_drives (lampPassed_drives c _ _)) (.refl _))
  refine .trans ?_ (.of_drives (lampFaults_drives c _ _ _ _))
  refine .trans ?_ (.ite (.of_drives (heldCheck_drives _)) (.refl _))
  refine .trans ?_ (.ite (.of_drives (.post _ _ _ _ _)) (.refl _))
  exact .trans (.lmp s _) (.ite (enters _) (.refl _))

theorem takeOffCheck_keepsReadings (c : Circuit) (r : Nat) (s : State) : KeepsReadings s (takeOffCheck c r s) := by
  unfold takeOffCheck
  simp only
  refine .trans ?_ (.of_drives (.tell _ (.passed .onWhenOff (.circuit c)) _))
  exact .trans (.lmp s _) (.of_drives (onChange_drives _ _ _ _ _))

theorem takeCurrent_keepsReadings (x : Result) (c : Circuit) (s : State) : KeepsReadings s (takeCurrent x c s) :=
  .ite (.refl s) (.ite (.ite (takeOffCheck_keepsReadings c _ s) (.refl s))
    (.ite (takeEvaluation_keepsReadings c _ _ s) (.refl s)))

theorem completeTest_keepsReadings (w : Test) (leak : Nat) (s : State) : KeepsReadings s (completeTest w leak s) := by
  have faults (x y : Cable) (t : State) : Drives t (cableFaults w.circuit x y t) :=
    .trans (.trans (.trans (onChange_drives _ _ _ _ t) (onChange_drives _ _ _ _ _)) (onChange_drives _ _ _ _ _))
      (onChange_drives _ _ _ _ _)
  have reported (was : CableState) (t : State) : KeepsReadings t (cableStateAfter w.circuit was t) := by
    have posted : KeepsReadings t (if cableState t w.circuit = was then t else cableReport w.circuit t) :=
      .ite (.refl t) (.of_drives (.post _ _ _ _ _))
    exact .ite (posted.trans (.cbl _ _)) posted
  unfold completeTest
  refine .trans ?_ (reported _ _)
  refine .trans ?_ (.of_responds (drain_responds _ _))
  refine .trans ?_ (.of_drives (faults _ _ _))
  exact .trans (.trans (.of_drives (commandRelease_drives _ s)) (.cbl _ _)) (.cbl _ _)

theorem takeCable_keepsReadings (x : Result) (s : State) : KeepsReadings s (takeCable x s) := by
  have moved (w : Test) : KeepsReadings s (testResult w x.count s) := by
    have injected (x : Test) : KeepsReadings s (injection x s) := ⟨rfl, rfl, rfl, rfl⟩
    have loaded (x : Test) : KeepsReadings s (loadedStep x s) := ⟨rfl, rfl, rfl, rfl⟩
    unfold testResult
    split
    · exact .ite (injected _) (loaded _)
    · exact injected _
    · exact .cbl s _
    · exact completeTest_keepsReadings w _ s
    · exact .refl s
    · exact .refl s
  unfold takeCable
  split
  · exact .refl s
  · exact .ite (moved _) (.refl s)

/-- R113: what a delivery makes of MEA's readings, whoever reads the channel. -/
theorem deliver_readsAs (x : Result) (s : State) :
    ReadsAs (s.mea.taken x.req.channel s.jds.timing.nominal x.count) s (deliver x s) := by
  by_cases hown : x.req.channel = .supply ∨ x.req.channel = .ref ∨ x.req.channel = .offset
  · obtain ⟨l, h⟩ := deliver_own hown s
    rw [h]
    exact ⟨rfl, rfl, rfl, rfl⟩
  · unfold deliver
    cases hch : x.req.channel with
    | current c => exact takeCurrent_keepsReadings x c s
    | voltage c => exact takeCable_keepsReadings x s
    | loop c => exact takeCable_keepsReadings x s
    | leak c => exact takeCable_keepsReadings x s
    | _ => simp [hch] at hown

theorem afterDelivery_keepsReadings (v : Conv) (s : State) : KeepsReadings s (afterDelivery v s) := by
  refine .of_responds (.trans (drain_responds eventFuel s) (.drives ?_))
  exact ((ownerPlaces_drives v.slot _).trans (grant_drives _ _)).trans (measures_drives _ _)

/-! ### The end of a window (R110) -/

/-- R110: the slot of the conversion that has ended is EMPTY and the engine free. -/
def freed (v : Conv) (s : State) : State := s.onMea fun m => { m.put v.slot .empty with conv := none }

theorem freed_mea (v : Conv) (s : State) : s.mea.Same (freed v s).mea := by
  cases hslot : v.slot <;> simp only [freed, State.onMea_mea, hslot] <;> rfl

/-- R110, R113: the result delivered, before FLT takes what it hears of it. -/
def delivered (v : Conv) (q : Req) (r : Nat) (s : State) : State :=
  deliver ⟨q, r, uptimeBefore s v.excess⟩ (freed v s)

theorem Mea.Same.faultEvents {k l : Mea} (h1 : m.Same n) (h2 : k.Same l) : n.faultEvents l = m.faultEvents k := by
  rw [h1, h2]
  rfl

/-- R119, R121: a reading of MEA's own hands its events to FLT and leaves every block but MEA, LMP and FLT. -/
theorem delivered_frame {v : Conv} {q : Req} (h : q.channel = .supply ∨ q.channel = .ref ∨ q.channel = .offset)
    (r : Nat) (s : State) :
    (delivered v q r s).flt = { s.flt with
      inbox := s.flt.inbox ++ s.mea.faultEvents (s.mea.taken q.channel s.jds.timing.nominal r) } ∧
    (delivered v q r s).seq = s.seq ∧ (delivered v q r s).osw = s.osw ∧ (delivered v q r s).plans = s.plans ∧
    (delivered v q r s).cbl = s.cbl ∧ (delivered v q r s).lnk = s.lnk := by
  have hfreed := freed_mea v s
  obtain ⟨l, hdelivered⟩ := deliver_own (x := ⟨q, r, uptimeBefore s v.excess⟩) h (freed v s)
  rw [delivered, hdelivered, ← hfreed.faultEvents (hfreed.taken ..)]
  exact ⟨rfl, rfl, rfl, rfl, rfl, rfl⟩

theorem conversionComplete_of_due {v : Conv} {q : Req} (input : Int) (hconv : s.mea.conv = some v)
    (hdue : v.window ≤ v.elapsed) (hslot : s.mea.slot v.slot = .converting q) :
    exec (.conversionComplete input) s =
      .next (finish (afterDelivery v (delivered v q (min input.toNat 4095) s))) := by
  change execConversionComplete input s = _
  simp only [execConversionComplete, hconv, if_pos hdue, endWindow, hslot]
  rfl

/-- The readings after a conversion. -/
theorem finish_delivered_readsAs (v : Conv) (q : Req) (r : Nat) (s : State) :
    ReadsAs (s.mea.taken q.channel s.jds.timing.nominal r) s (finish (afterDelivery v (delivered v q r s))) := by
  obtain ⟨hmea, huptime, hjds, hdet⟩ := (deliver_readsAs ⟨q, r, uptimeBefore s v.excess⟩ (freed v s)).kept
    (afterDelivery_keepsReadings v _)
  exact ⟨((freed_mea v s).taken q.channel _ r).trans hmea, huptime, hjds, hdet⟩

/-! ### Each reading, run and condition after a conversion -/

section Readings

variable {ch : Channel} {nominal r : Nat}

theorem Mea.Same.bypass_of_taken (h : (m.taken ch nominal r).Same n) : n.bypass = m.bypass := by
  rw [h]
  cases ch with
  | offset =>
    simp only [Mea.taken, Mea.offsetTaken]
    split <;> rfl
  | _ => rfl

/-- R120, R121: the supply's value and state, its two runs, and the loss they raise and clear. -/
theorem Mea.Same.of_supply (h : (m.taken .supply nominal r).Same n) :
    n.s = r ∧
    n.supply = (if r < nominal / 2 then .absent else if r < 4 * nominal / 5 then .low else .normal) ∧
    n.supAbsent = (if r < nominal / 2 then min (m.supAbsent + 1) 3 else 0) ∧
    n.supNormal = (if ¬r < nominal / 2 ∧ ¬r < 4 * nominal / 5 then min (m.supNormal + 1) 10 else 0) ∧
    (n.supAbsent = 3 → n.lossCond = true) ∧ (n.supNormal = 10 → n.lossCond = false) ∧
    (n.supAbsent < 3 → n.supNormal < 10 → n.lossCond = m.lossCond) := by
  rw [h]
  by_cases habsent : r < nominal / 2
  · simp +contextual [Mea.taken, Mea.supplyReading, supplyOf, habsent]
  · by_cases hlow : r < 4 * nominal / 5
    · simp [Mea.taken, Mea.supplyReading, supplyOf, habsent, hlow]
    · simp +contextual [Mea.taken, Mea.supplyReading, supplyOf, habsent, hlow]

theorem Mea.Same.of_not_supply (hch : ch ≠ .supply) (h : (m.taken ch nominal r).Same n) :
    n.s = m.s ∧ n.supply = m.supply ∧ n.lossCond = m.lossCond ∧ n.supAbsent = m.supAbsent ∧
      n.supNormal = m.supNormal := by
  rw [h]
  cases ch with
  | supply => exact absurd rfl hch
  | offset =>
    simp only [Mea.taken, Mea.offsetTaken]
    split <;> exact ⟨rfl, rfl, rfl, rfl, rfl⟩
  | _ => exact ⟨rfl, rfl, rfl, rfl, rfl⟩

/-- R118: the reference, its runs and its condition. -/
theorem Mea.Same.of_ref (h : (m.taken .ref nominal r).Same n) :
    n.lastRef = some r ∧
    (2007 ≤ r ∧ r ≤ 2089 → n.refBad = 0 ∧ n.refGood = min (m.refGood + 1) 10 ∧
      n.refCond = (m.refCond && decide (n.refGood ≠ 10))) ∧
    (¬(2007 ≤ r ∧ r ≤ 2089) → n.refGood = 0 ∧ n.refBad = min (m.refBad + 1) 3 ∧
      n.refCond = (m.refCond || decide (n.refBad = 3))) := by
  rw [h]
  refine ⟨rfl, fun hgood => ?_, fun hbad => ?_⟩
  · simp [Mea.taken, Mea.refReading, runsAfter, inRange_iff, hgood]
  · simp [Mea.taken, Mea.refReading, runsAfter, inRange_iff, hbad]

theorem Mea.Same.of_not_ref (hch : ch ≠ .ref) (h : (m.taken ch nominal r).Same n) :
    n.lastRef = m.lastRef ∧ n.refBad = m.refBad ∧ n.refGood = m.refGood ∧ n.refCond = m.refCond := by
  rw [h]
  cases ch with
  | ref => exact absurd rfl hch
  | offset =>
    simp only [Mea.taken, Mea.offsetTaken]
    split <;> exact ⟨rfl, rfl, rfl, rfl⟩
  | _ => exact ⟨rfl, rfl, rfl, rfl⟩

/-- R116: an offset that is judged, its runs and its condition. -/
theorem Mea.Same.of_offset (hbypass : m.bypass = none) (hvoid : m.offVoid = false)
    (h : (m.taken .offset nominal r).Same n) :
    n.lastOffset = some r ∧
    (r ≤ 100 → n.measured = r ∧ n.offBad = 0 ∧ n.offGood = min (m.offGood + 1) 10 ∧
      n.offCond = (m.offCond && decide (n.offGood ≠ 10))) ∧
    (100 < r → n.measured = m.measured ∧ n.offGood = 0 ∧ n.offBad = min (m.offBad + 1) 3 ∧
      n.offCond = (m.offCond || decide (n.offBad = 3))) := by
  rw [h]
  refine ⟨?_, fun hgood => ?_, fun hbad => ?_⟩
  · simp [Mea.taken, Mea.offsetTaken, hbypass, hvoid, Mea.offsetReading]
  · simp [Mea.taken, Mea.offsetTaken, hbypass, hvoid, Mea.offsetReading, runsAfter, hgood]
  · simp [Mea.taken, Mea.offsetTaken, hbypass, hvoid, Mea.offsetReading, runsAfter, Nat.not_le.mpr hbad]

/-- R117, log 30: another channel, or an offset not judged. -/
theorem Mea.Same.of_not_offset (hch : ch ≠ .offset ∨ m.bypass ≠ none ∨ m.offVoid = true)
    (h : (m.taken ch nominal r).Same n) :
    n.lastOffset = m.lastOffset ∧ n.measured = m.measured ∧ n.offBad = m.offBad ∧ n.offGood = m.offGood ∧
      n.offCond = m.offCond := by
  rw [h]
  cases ch with
  | offset =>
    have hvoid : (m.bypass.isSome || m.offVoid) = true := by
      simpa [Option.isSome_iff_ne_none] using hch
    simp [Mea.taken, Mea.offsetTaken, hvoid]
  | _ => exact ⟨rfl, rfl, rfl, rfl, rfl⟩

end Readings

end Sys2Proof.Machine

namespace Sys2Proof.Proofs

open Sys2Proof Sys2Proof.Machine

/-- Settles O50. The state before FLT takes its events is `delivered`; its readings are those of `Mea.taken`
(`finish_delivered_readsAs`), which the events, the placing and the grant leave as they are. -/
theorem conversionDelivers : Obligations.ConversionDelivers := by
  unfold Obligations.ConversionDelivers
  intro v q input s hconv hdue hslot r vn
  obtain ⟨hreads, huptime, hjds, hdet⟩ := finish_delivered_readsAs v q r s
  refine ⟨_, conversionComplete_of_due input hconv hdue hslot, huptime, hjds, hdet, fun hch => ?supply,
    fun hch => hreads.of_not_supply hch, fun hch => hreads.of_not_ref hch, fun hch => hreads.of_not_offset hch,
    hreads.bypass_of_taken, fun hown => ⟨delivered v q r s, rfl, ?faults⟩, fun hch => ?ref,
    fun hch hbypass hvoid => ?offset⟩
  case supply =>
    rw [hch] at hreads
    exact hreads.of_supply
  case faults =>
    have same : s.mea.Same s.mea := rfl
    obtain ⟨hflt, hframe⟩ := delivered_frame (v := v) hown r s
    rw [← same.faultEvents hreads, Mea.faultEvents, ← List.append_assoc] at hflt
    exact ⟨hflt, hframe⟩
  case ref =>
    rw [hch] at hreads
    exact hreads.of_ref
  case offset =>
    rw [hch] at hreads
    exact hreads.of_offset hbypass hvoid

end Sys2Proof.Proofs
end

section
/-! PROOF. The diagnostic schedule, MEASURE-SET and the order of grants (R112, R115, R117), and
`Obligations.DiagnosticsAndBypass` from them. -/

namespace Sys2Proof.Machine

variable {s t u : State}

/-! ### The diagnostic schedule (R115) -/

theorem diagWaits_iff : diagWaits s = true ↔
    s.mea.diag = .empty ∧ (s.mea.dueSupply = true ∨ s.mea.dueRef = true ∨ s.mea.dueOffset = true) := by
  simp [diagWaits, or_assoc]

theorem diagnosticDue_of_boundary (h : 200 ≤ s.mea.diagMs) :
    exec .diagnosticDue s = .next (conclude (s.onMea Mea.boundary)) := if_pos h

theorem diagnosticDue_of_early (h : s.mea.diagMs < 200) : exec .diagnosticDue s =
    .next (if s.mea.diag = .empty ∧ (s.mea.dueSupply = true ∨ s.mea.dueRef = true ∨ s.mea.dueOffset = true) then
      conclude s else s) := by
  change execDiagnosticDue s = _
  rw [execDiagnosticDue, if_neg (Nat.not_le.mpr h)]
  simp only [diagWaits_iff]
  split <;> rfl

/-! ### A request whose effects are settled (R192) -/

/-- A reply to a request whose effects `u` have left LNK's queues but the reports alone. -/
theorem replied_of_effects {kind tag : Byte} {a : Answer}
    (h : u.lnk = { s.lnk.taken with reports := u.lnk.reports, lost := u.lnk.lost }) :
    Replied s kind tag a u (finish (reply kind tag a u)) := by
  unfold Replied finish reply State.onLnk
  rw [Lnk.start_frame, h]
  simp only [Lnk.taken_replies]

theorem answered_of_replied {kind tag : Byte} {a : Answer} (h : Replied s kind tag a u t) :
    Answered s kind tag a t := by
  unfold Replied at h
  unfold Answered
  rw [h]
  exact ⟨rfl, rfl, rfl⟩

theorem settle_lnk_of_taken (h : u.lnk = s.lnk.taken) :
    (settle u).lnk = { s.lnk.taken with reports := (settle u).lnk.reports, lost := (settle u).lnk.lost } := by
  obtain ⟨-, -, -, -, hlnk⟩ := (settle_responds u).frame
  rwa [h] at hlnk

/-! ### The fields of MEASURE-SET (R200) -/

theorem wordAt_be16 (b : Byte) {n : Nat} (h : n < 65536) : wordAt (b :: be16 n) 1 = n := by
  simp only [wordAt, be16, byteAt_cons_succ, byteAt_cons_zero, b8, BitVec.toNat_ofNat]
  omega

theorem measureSetOn_of_takes {tag : Byte} {body : List Byte} {a : Answer} (h : takes s 0x32 tag body = true)
    (hsel : byteAt body 0 ≠ 0) (hlen : body.length = 3) (hjudge : judgeMeasureOn body (takeRequest s) = (a, u)) :
    exec (.measureSetOn tag body) s = .next (finish (reply 0xB2 tag a u)) := by
  change serve 0x32 tag body (byteAt body 0 ≠ 0) (body.length = 3) (judgeMeasureOn body) s = _
  rw [decide_eq_true hsel]
  exact serve_of_judge h (decide_eq_true hlen) hjudge

theorem measureSetOff_of_takes {tag a b : Byte} {x : Answer} (h : takes s 0x32 tag [0, a, b] = true)
    (hjudge : judgeMeasureOff (takeRequest s) = (x, u)) :
    exec (.measureSetOff tag [0, a, b]) s = .next (finish (reply 0xB2 tag x u)) := serve_of_judge h rfl hjudge

/-- R117: the value clamped, with the CLAMPED flag. -/
theorem judgeMeasureOn_word (n : BitVec 16) (s : State) : judgeMeasureOn (1 :: be16 n.toNat) s =
    (.done (decide (4095 < n.toNat)) [],
      if s.mea.bypass = some (min n.toNat 4095) then s else settle (bypassOn (min n.toNat 4095) s)) := by
  have hclamped : decide (min n.toNat 4095 ≠ n.toNat) = decide (4095 < n.toNat) := by
    rw [decide_eq_decide]
    omega
  have hsel : byteAt (1 :: be16 n.toNat) 0 = 1 := rfl
  simp only [judgeMeasureOn, hsel, if_true, wordAt_be16 1 n.isLt, hclamped]
  split <;> rfl

theorem judgeMeasureOn_refused {x : Byte} (hx : x ≠ 1) (l : List Byte) (s : State) :
    judgeMeasureOn (x :: l) s = (.badField 1, s) := by
  refine if_neg fun h => hx ?_
  exact BitVec.eq_of_toNat_eq h

theorem judgeMeasureOff_eq (s : State) : judgeMeasureOff s =
    (.ok, if s.mea.bypass = none then s else settle (bypassOff s)) := by
  unfold judgeMeasureOff
  cases s.mea.bypass <;> rfl

/-! ### The bypass (R117) -/

/-- R117: `d` and `void` are MEA's own slot and the void flag of `m` once a WAITING OFFSET request has been withdrawn
and a CONVERTING one made void. -/
def Mea.OffsetDropped (m : Mea) (d : SlotContent) (void : Bool) : Prop :=
  (∀ q, m.diag = .waiting q → q.channel = .offset → d = .empty ∧ void = m.offVoid) ∧
  (∀ q, m.diag = .converting q → q.channel = .offset → d = m.diag ∧ void = true) ∧
  ((∀ q, m.diag = .waiting q ∨ m.diag = .converting q → q.channel ≠ .offset) → d = m.diag ∧ void = m.offVoid)

theorem dropOffset_eq (s : State) : ∃ d void, s.mea.OffsetDropped d void ∧
    dropOffset s = { s with mea := { s.mea with diag := d, offVoid := void } } := by
  unfold dropOffset
  cases hdiag : s.mea.diag with
  | empty => exact ⟨s.mea.diag, s.mea.offVoid, by simp [Mea.OffsetDropped, hdiag], rfl⟩
  | waiting q =>
    by_cases hq : q.channel = .offset
    · refine ⟨.empty, s.mea.offVoid, by simp [Mea.OffsetDropped, hdiag, hq], ?_⟩
      simp only [if_pos hq]
      exact if_pos (by simp [Mea.isWaiting, Mea.slot, hdiag, SlotContent.waiting?])
    · exact ⟨s.mea.diag, s.mea.offVoid, by simp [Mea.OffsetDropped, hdiag, hq], if_neg hq⟩
  | converting q =>
    by_cases hq : q.channel = .offset
    · exact ⟨s.mea.diag, true, by simp [Mea.OffsetDropped, hdiag, hq], if_pos hq⟩
    · exact ⟨s.mea.diag, s.mea.offVoid, by simp [Mea.OffsetDropped, hdiag, hq], if_neg hq⟩

/-- R117: the bypass turned on, before FLT takes the clear. -/
theorem bypassOn_eq (v : Nat) (s : State) : ∃ d void, s.mea.OffsetDropped d void ∧ bypassOn v s = { s with
    mea := { s.mea with
      bypass := some v, dueOffset := false, offBad := 0, offGood := 0, offCond := false, diag := d, offVoid := void }
    flt := { s.flt with
      inbox := s.flt.inbox ++ edge (s.mea.offCond || s.mea.refCond) s.mea.refCond
        (.raise .measurementFault .none 0xFF) (.clear .measurementFault .none) } } := by
  obtain ⟨d, void, hdropped, h⟩ := dropOffset_eq s
  refine ⟨d, void, hdropped, ?_⟩
  rw [bypassOn, h, measurementFault, onChange_eq]
  rfl

/-- The part of MEA that the bypass governs. -/
theorem Mea.Same.offset {m n : Mea} (h : m.Same n) : n.bypass = m.bypass ∧ n.measured = m.measured ∧
    n.offBad = m.offBad ∧ n.offGood = m.offGood ∧ n.offCond = m.offCond := by
  rw [h]
  exact ⟨rfl, rfl, rfl, rfl, rfl⟩

theorem settle_keepsReadings (s : State) : KeepsReadings s (settle s) := .of_responds (settle_responds s)

/-- R117: the setting already in force changes nothing. -/
theorem measureSetOn_in_force {tag : Byte} {n : BitVec 16} (h : takes s 0x32 tag (1 :: be16 n.toNat) = true)
    (hforce : s.mea.bypass = some (min n.toNat 4095)) : exec (.measureSetOn tag (1 :: be16 n.toNat)) s =
      .next (finish (reply 0xB2 tag (.done (decide (4095 < n.toNat)) []) (takeRequest s))) :=
  measureSetOn_of_takes h (by simp) rfl ((judgeMeasureOn_word n _).trans (congrArg (Prod.mk _) (if_pos hforce)))

theorem measureSetOn_changes {tag : Byte} {n : BitVec 16} (h : takes s 0x32 tag (1 :: be16 n.toNat) = true)
    (hforce : s.mea.bypass ≠ some (min n.toNat 4095)) : exec (.measureSetOn tag (1 :: be16 n.toNat)) s =
      .next (finish (reply 0xB2 tag (.done (decide (4095 < n.toNat)) [])
        (settle (bypassOn (min n.toNat 4095) (takeRequest s))))) :=
  measureSetOn_of_takes h (by simp) rfl ((judgeMeasureOn_word n _).trans (congrArg (Prod.mk _) (if_neg hforce)))

theorem measureSetOff_in_force {tag a b : Byte} (h : takes s 0x32 tag [0, a, b] = true)
    (hforce : s.mea.bypass = none) :
    exec (.measureSetOff tag [0, a, b]) s = .next (finish (reply 0xB2 tag .ok (takeRequest s))) :=
  measureSetOff_of_takes h ((judgeMeasureOff_eq _).trans (congrArg (Prod.mk _) (if_pos hforce)))

theorem measureSetOff_changes {tag a b : Byte} (h : takes s 0x32 tag [0, a, b] = true) (hforce : s.mea.bypass ≠ none) :
    exec (.measureSetOff tag [0, a, b]) s =
      .next (finish (reply 0xB2 tag .ok (settle (bypassOff (takeRequest s))))) :=
  measureSetOff_of_takes h ((judgeMeasureOff_eq _).trans (congrArg (Prod.mk _) (if_neg hforce)))

theorem offsetInUse_of_bypass {v : Nat} (h : s.mea.bypass = some v) : offsetInUse s = v := by rw [offsetInUse, h]; rfl

theorem offsetInUse_of_no_bypass (h : s.mea.bypass = none) : offsetInUse s = s.mea.measured := by
  rw [offsetInUse, h]; rfl

/-! ### The order of grants (R112) -/

section Grant

variable {m : Mea} {i : MSlot}

theorem Mea.isWaiting_iff : m.isWaiting i = true ↔ ∃ q, m.slot i = .waiting q := by
  unfold Mea.isWaiting
  cases m.slot i <;> simp [SlotContent.waiting?]

theorem Mea.isWaiting_eq_false : m.isWaiting i = false ↔ ¬∃ q, m.slot i = .waiting q := by
  rw [← Mea.isWaiting_iff, Bool.not_eq_true]

theorem Mea.choice_proof (h : m.isWaiting .proof = true) : m.choice = some .proof := if_pos h

theorem Mea.choice_diag (hproof : m.isWaiting .proof = false) (h : m.isWaiting .diag = true) :
    m.choice = some .diag := by
  simp [Mea.choice, hproof, h]

theorem Mea.choice_routine (hproof : m.isWaiting .proof = false) (hdiag : m.isWaiting .diag = false)
    (h : m.isWaiting .routine = true) (hturn : m.isWaiting .cbl = true → m.lastCbl = true) :
    m.choice = some .routine := by
  cases hcbl : m.isWaiting .cbl with
  | false => simp [Mea.choice, hproof, hdiag, h, hcbl]
  | true => simp [Mea.choice, hproof, hdiag, h, hcbl, hturn hcbl]

theorem Mea.choice_cbl (hproof : m.isWaiting .proof = false) (hdiag : m.isWaiting .diag = false)
    (h : m.isWaiting .cbl = true) (hturn : m.isWaiting .routine = true → m.lastCbl = false) :
    m.choice = some .cbl := by
  cases hroutine : m.isWaiting .routine with
  | false => simp [Mea.choice, hproof, hdiag, h, hroutine]
  | true => simp [Mea.choice, hproof, hdiag, h, hroutine, hturn hroutine]

theorem Mea.choice_none (h : ∀ i, m.isWaiting i = false) : m.choice = none := by simp [Mea.choice, h]

theorem grant_of_busy (carry : Nat) (h : s.mea.conv ≠ none) : grant carry s = s :=
  if_pos (Option.isSome_iff_ne_none.mpr h)

theorem grant_of_choice_none (carry : Nat) (h : s.mea.choice = none) : grant carry s = s := by
  unfold grant
  rw [h]
  exact ite_self s

/-- R112: the alternation memory after a grant to this slot. -/
def Mea.alternated (i : MSlot) (m : Mea) : Bool :=
  match i with
  | .cbl => true
  | .routine => false
  | .proof | .diag => m.lastCbl

theorem grant_of_choice (carry : Nat) {q : Req} (hconv : s.mea.conv = none) (hchoice : s.mea.choice = some i)
    (hslot : s.mea.slot i = .waiting q) : grant carry s = { s with mea := { s.mea.put i (.converting q) with
      conv := some ⟨i, uptimeBefore s carry, windowOf s.jds.timing.mains, carry⟩
      lastCbl := s.mea.alternated i } } := by
  unfold grant
  simp only [hconv, Option.isSome_none, Bool.false_eq_true, if_false, hchoice, hslot]
  cases i <;> rfl

end Grant

end Sys2Proof.Machine

namespace Sys2Proof.Proofs

open Sys2Proof Sys2Proof.Machine

/-- Settles O51. The schedule is `Mea.boundary`; a bypass that changes is `bypassOn_eq` or `bypassOff`, whose settling
keeps MEA's readings and no OFFSET due; a grant is `grant_of_choice` for the slot that the order chooses. -/
theorem diagnosticsAndBypass : Obligations.DiagnosticsAndBypass := by
  unfold Obligations.DiagnosticsAndBypass
  refine ⟨fun s h => diagnosticDue_of_boundary h, fun s h => diagnosticDue_of_early h, ?on, ?off, ?bad, ?grant⟩
  case on =>
    intro tag n s body htakes
    by_cases hforce : s.mea.bypass = some (min n.toNat 4095)
    · have hreplied := replied_of_unchanged 0xB2 tag (.done (decide (4095 < n.toNat)) []) s
      exact ⟨_, measureSetOn_in_force htakes hforce, answered_of_replied hreplied, hforce,
        offsetInUse_of_bypass hforce, rfl, rfl, fun _ => hreplied, fun h => absurd hforce h⟩
    · obtain ⟨d, void, ⟨hwaiting, hconverting, helse⟩, hu⟩ := bypassOn_eq (min n.toNat 4095) (takeRequest s)
      refine ⟨_, measureSetOn_changes htakes hforce, ?_⟩
      generalize bypassOn (min n.toNat 4095) (takeRequest s) = u at hu
      have hlnk : u.lnk = s.lnk.taken := by rw [hu]; rfl
      have hreplied := replied_of_effects (kind := 0xB2) (tag := tag) (a := .done (decide (4095 < n.toNat)) [])
        (settle_lnk_of_taken hlnk)
      have hdue : OffsetNotDue u := by rw [hu]; rfl
      obtain ⟨hmea, -, hjds, -⟩ := settle_keepsReadings u
      obtain ⟨hbypass, hmeasured, hbad, hgood, hcond⟩ := hmea.offset
      subst hu
      exact ⟨answered_of_replied hreplied, hbypass, offsetInUse_of_bypass hbypass, hmeasured, hjds,
        fun h => absurd h hforce, fun _ => ⟨hbad, hgood, hcond, hdue.settle, _, hreplied, rfl, hwaiting, hconverting,
          helse, rfl, rfl, rfl, rfl, rfl, rfl, rfl⟩⟩
  case off =>
    intro tag a b s htakes
    by_cases hforce : s.mea.bypass = none
    · have hreplied := replied_of_unchanged 0xB2 tag .ok s
      exact ⟨_, measureSetOff_in_force htakes hforce, answered_of_replied hreplied, hforce,
        offsetInUse_of_no_bypass hforce, rfl, fun _ => hreplied, fun h => absurd hforce h⟩
    · obtain ⟨hmea, -, hjds, -⟩ := settle_keepsReadings (bypassOff (takeRequest s))
      obtain ⟨hbypass, hmeasured, hbad, hgood, hcond⟩ := hmea.offset
      exact ⟨_, measureSetOff_changes htakes hforce, answered_of_effects (settle_lnk_of_taken rfl), hbypass,
        (offsetInUse_of_no_bypass hbypass).trans hmeasured, hjds, fun h => absurd h hforce,
        fun _ => ⟨hbad, hgood, hcond⟩⟩
  case bad =>
    intro tag x a b s htakes hoff hon
    have hsel : byteAt [x, a, b] 0 ≠ 0 := fun h => hoff (BitVec.eq_of_toNat_eq h)
    exact ⟨_, measureSetOn_of_takes htakes hsel rfl (judgeMeasureOn_refused hon _ _), replied_of_unchanged _ _ _ s⟩
  case grant =>
    intro carry s waits first
    have hwaits (i : MSlot) : s.mea.isWaiting i = true ↔ waits i := Mea.isWaiting_iff
    have hidle (i : MSlot) : s.mea.isWaiting i = false ↔ ¬waits i := Mea.isWaiting_eq_false
    refine ⟨fun h => h.elim (grant_of_busy carry) fun hnone =>
      grant_of_choice_none carry (Mea.choice_none fun i => (hidle i).mpr (hnone i)), fun i q hconv hslot hfirst => ?_⟩
    have hwaiting : s.mea.isWaiting i = true := (hwaits i).mpr ⟨q, hslot⟩
    have hchoice : s.mea.choice = some i := by
      cases i with
      | proof => exact Mea.choice_proof hwaiting
      | diag => exact Mea.choice_diag ((hidle _).mpr hfirst) hwaiting
      | routine =>
        obtain ⟨hproof, hdiag, hturn⟩ := hfirst
        exact Mea.choice_routine ((hidle _).mpr hproof) ((hidle _).mpr hdiag) hwaiting
          fun h => hturn ((hwaits _).mp h)
      | cbl =>
        obtain ⟨hproof, hdiag, hturn⟩ := hfirst
        exact Mea.choice_cbl ((hidle _).mpr hproof) ((hidle _).mpr hdiag) hwaiting
          fun h => hturn ((hwaits _).mp h)
    rw [grant_of_choice carry hconv hchoice hslot]
    cases i <;> rfl

end Sys2Proof.Proofs
end

section
/-! PROOF. What LMP may measure, which requests it places (R125 to R127, R140), what the other owners and the grant leave
of them, and `Obligations.LampRequestsArePlaced` from these. -/

namespace Sys2Proof.Machine

variable {s t u : State} {c : Circuit}

/-! ### Which circuits may be measured (R125, R140) -/

theorem settleTime_eq (k : Technology) : settleTime k = if k = .filament then 200 else 500 := by
  cases k <;> rfl

theorem InjPos.circuit_ne_some_iff {x : InjPos} :
    x.circuit ≠ some c ↔ ∀ m a, x ≠ .on c m ∧ x ≠ .releasing c m a := by
  cases x <;> simp [InjPos.circuit]

theorem evaluable_iff : evaluable s c = true ↔
    s.jds.fitted c = true ∧ relayState s c = .closed ∧ s.osw.contactor.state = .closed ∧
    (∀ x, (relayAt s c).coil.lastChange = some x → settleTime (s.jds.circuit.get c).technology ≤ x.elapsed) ∧
    s.mea.supply ≠ .absent := by
  simp only [evaluable, Bool.and_eq_true, decide_eq_true_eq, longSince_iff, and_assoc]

theorem awaitingProof_iff : awaitingProof s c = true ↔
    aspectOf c = .red ∧ evaluable s c = true ∧ (s.lmp.lamp.get c).evalCount ≠ some (relayAt s c).switchCount := by
  simp only [awaitingProof, Bool.and_eq_true, decide_eq_true_eq, and_assoc]

theorem offEligible_iff : offEligible s c = true ↔
    s.jds.fitted c = true ∧ relayState s c = .open ∧
    (∀ x, (relayAt s c).coil.lastChange = some x → 300 ≤ x.elapsed) ∧
    s.osw.contactor.state = .closed ∧ ∀ m a, s.cbl.pos ≠ .on c m ∧ s.cbl.pos ≠ .releasing c m a := by
  simp only [offEligible, Bool.and_eq_true, decide_eq_true_eq, longSince_iff, and_assoc, InjPos.circuit_ne_some_iff]

/-! ### The next circuit after a pointer (R127) -/

section NextAfter

variable {ptr : Option Circuit} {ok : Circuit → Bool}

/-- The circuits that the first search of `nextAfter` looks for. -/
def okAbove (ptr : Option Circuit) (ok : Circuit → Bool) (e : Circuit) : Bool := ok e && ptr.all fun p => p.val < e.val

theorem okAbove_iff {e : Circuit} : okAbove ptr ok e = true ↔ ok e = true ∧ ∀ p, ptr = some p → p < e := by
  cases ptr <;> simp [okAbove]

theorem nextAfter_eq_or (ptr : Option Circuit) (ok : Circuit → Bool) :
    nextAfter ptr ok = ((allFin 48).find? (okAbove ptr ok)).or ((allFin 48).find? ok) := by
  unfold nextAfter okAbove
  split
  next c h => rw [h, Option.some_or]
  next h => rw [h, Option.none_or]

theorem nextAfter_of_above (h : (allFin 48).find? (okAbove ptr ok) = some c) : nextAfter ptr ok = some c := by
  rw [nextAfter_eq_or, h, Option.some_or]

theorem nextAfter_of_none_above (h : ∀ e, ¬okAbove ptr ok e = true) : nextAfter ptr ok = (allFin 48).find? ok := by
  rw [nextAfter_eq_or, allFin_find?_eq_none.mpr h, Option.none_or]

theorem nextAfter_of_none (h : ∀ e, ok e = false) : nextAfter ptr ok = none := by
  have hnone (e : Circuit) : ¬ok e = true := Bool.not_eq_true _ ▸ h e
  rw [nextAfter_of_none_above fun e he => hnone e (okAbove_iff.mp he).1]
  exact allFin_find?_eq_none.mpr hnone

theorem find?_eq_of_lt {p : Circuit → Bool} (hc : p c = true) (hlt : ∀ e, p e = true → e ≠ c → c < e) :
    (allFin 48).find? p = some c :=
  allFin_find?_eq_some hc fun e he => (eq_or_ne e c).elim (fun h => h.ge) fun h => (hlt e he h).le

/-- A circuit above the pointer is found by the first search, and one that is not above it by the second alone. -/
theorem NextAfter.nextAfter_eq (h : NextAfter ptr ok c) : nextAfter ptr ok = some c := by
  obtain ⟨hc, hnext⟩ := h
  cases ptr with
  | none =>
    exact nextAfter_of_above <| find?_eq_of_lt (okAbove_iff.mpr ⟨hc, nofun⟩) fun e he => hnext e (okAbove_iff.mp he).1
  | some p =>
    by_cases hpc : p < c
    · refine nextAfter_of_above <| find?_eq_of_lt (okAbove_iff.mpr ⟨hc, by simpa using hpc⟩) fun e he hne => ?_
      obtain ⟨hok, hpe⟩ := okAbove_iff.mp he
      rcases hnext e hok hne with ⟨-, hep | hce⟩ | ⟨hcp, -, -⟩
      · exact absurd (hpe p rfl) (not_lt.mpr hep)
      · exact hce
      · exact absurd hpc (not_lt.mpr hcp)
    · have hbelow (e : Circuit) (hok : ok e = true) (hne : e ≠ c) : e ≤ p ∧ c < e := by
        rcases hnext e hok hne with ⟨h, -⟩ | ⟨-, hep, hce⟩
        · exact absurd h hpc
        · exact ⟨hep, hce⟩
      rw [nextAfter_of_none_above fun e he => ?above]
      · exact find?_eq_of_lt hc fun e hok hne => (hbelow e hok hne).2
      case above =>
        obtain ⟨hok, hpe⟩ := okAbove_iff.mp he
        by_cases hne : e = c
        · exact hpc (hne ▸ hpe p rfl)
        · exact absurd (hpe p rfl) (not_lt.mpr (hbelow e hok hne).1)

end NextAfter

/-! ### The requests LMP places (R126, R127) -/

/-- The state with another content of LMP's proof slot. -/
def State.withProof (x : SlotContent) (s : State) : State := s.onMea fun m => { m with proof := x }

/-- R126: LMP writes its proof slot alone. -/
theorem placeProof_eq (s : State) : ∃ x, placeProof s = s.withProof x := by
  unfold placeProof
  split
  · exact ⟨s.mea.proof, rfl⟩
  · split
    · unfold place
      split
      · exact ⟨_, rfl⟩
      · exact ⟨s.mea.proof, rfl⟩
    · exact ⟨s.mea.proof, rfl⟩

theorem placeProof_of_awaiting (hslot : s.mea.proof = .empty) (hmode : s.flt.mode ≠ .dark)
    (hc : awaitingProof s c = true) (hlt : ∀ e, e < c → awaitingProof s e = false) :
    (placeProof s).mea.proof = .waiting ⟨.current c, countOf s c, false⟩ := by
  have hfind : (allFin 48).find? (awaitingProof s) = some c :=
    allFin_find?_eq_some_iff.mpr ⟨hc, fun e he => by simp [hlt e he]⟩
  simp [placeProof, place, Mea.slot, Mea.put, hslot, hmode, hfind]

theorem placeProof_of_none (h : ∀ e, awaitingProof s e = false) : placeProof s = s := by
  have hfind : (allFin 48).find? (awaitingProof s) = none := allFin_find?_eq_none.mpr fun e => by simp [h e]
  simp [placeProof, hfind]

section Routine

variable (hslot : s.mea.routine = .empty)
include hslot

theorem placeEvaluation_eq (c : Circuit) : placeEvaluation c s = { s with
    mea := { s.mea with routine := .waiting ⟨.current c, countOf s c, false⟩ }
    lmp := { s.lmp with routinePtr := some c, evals := min (s.lmp.evals + 1) 8 } } := if_pos hslot

theorem placeOffCheck_eq (c : Circuit) : placeOffCheck c s = { s with
    mea := { s.mea with routine := .waiting ⟨.current c, countOf s c, true⟩ }
    lmp := { s.lmp with offPtr := some c, evals := 0 } } := if_pos hslot

variable (hmode : s.flt.mode ≠ .dark)
include hmode

/-- R127: fewer than eight evaluations since the last off-check, or no off-check to ask for. -/
theorem placeRoutine_of_evaluation (hnext : NextAfter s.lmp.routinePtr (routineEligible s) c)
    (hturn : s.lmp.evals ≠ 8 ∨ ∀ e, offEligible s e = false) : placeRoutine s = placeEvaluation c s := by
  cases hoff : nextAfter s.lmp.offPtr (offEligible s) with
  | none => simp [placeRoutine, hslot, hmode, hnext.nextAfter_eq, hoff]
  | some d =>
    have hevals : s.lmp.evals ≠ 8 := hturn.resolve_right fun hnone => by simp [nextAfter_of_none hnone] at hoff
    simp [placeRoutine, hslot, hmode, hnext.nextAfter_eq, hoff, hevals]

/-- R127: eight evaluations since the last off-check, or no evaluation to ask for. -/
theorem placeRoutine_of_offCheck (hnext : NextAfter s.lmp.offPtr (offEligible s) c)
    (hturn : s.lmp.evals = 8 ∨ ∀ e, routineEligible s e = false) : placeRoutine s = placeOffCheck c s := by
  cases hroutine : nextAfter s.lmp.routinePtr (routineEligible s) with
  | none => simp [placeRoutine, hslot, hmode, hnext.nextAfter_eq, hroutine]
  | some d =>
    have hevals : s.lmp.evals = 8 := hturn.resolve_right fun hnone => by simp [nextAfter_of_none hnone] at hroutine
    simp [placeRoutine, hslot, hmode, hnext.nextAfter_eq, hroutine, hevals]

end Routine

theorem placeRoutine_of_none (hroutine : ∀ e, routineEligible s e = false) (hoff : ∀ e, offEligible s e = false) :
    placeRoutine s = s := by
  simp [placeRoutine, nextAfter_of_none hroutine, nextAfter_of_none hoff]

theorem placeRoutine_proof (s : State) : (placeRoutine s).mea.proof = s.mea.proof := by
  have hplace (r : Req) (u : State) : (place .routine r u).mea.proof = u.mea.proof := by
    unfold place
    split <;> rfl
  unfold placeRoutine
  split
  · rfl
  simp only
  split
  · split
    · exact hplace _ _
    · exact hplace _ _
  · exact hplace _ _
  · exact hplace _ _
  · rfl

/-! ### What the other owners and the grant leave of LMP's requests (R111, R112) -/

/-- What a slot may become while no owner but its own places and the engine grants: a WAITING request is CONVERTING. -/
def SlotContent.Granted (x y : SlotContent) : Prop := y = x ∨ ∃ q, x = .waiting q ∧ y = .converting q

namespace SlotContent.Granted

variable {x y z : SlotContent}

theorem refl (x : SlotContent) : Granted x x := .inl rfl

theorem trans (h1 : Granted x y) (h2 : Granted y z) : Granted x z := by
  rcases h1 with rfl | ⟨q, rfl, rfl⟩
  · exact h2
  · rcases h2 with rfl | ⟨r, hr, -⟩
    · exact .inr ⟨q, rfl, rfl⟩
    · exact SlotContent.noConfusion hr

theorem of_waiting {q : Req} (h : Granted (.waiting q) y) : y = .waiting q ∨ y = .converting q := by
  rcases h with rfl | ⟨r, hr, rfl⟩
  · exact .inl rfl
  · cases hr
    exact .inr rfl

theorem of_empty (h : Granted .empty y) : y = .empty := by
  rcases h with h | ⟨r, hr, -⟩
  · exact h
  · exact SlotContent.noConfusion hr

end SlotContent.Granted

/-- LMP's own block stays, and its slots keep their requests. -/
def KeepsLampRequests (s t : State) : Prop :=
  t.lmp = s.lmp ∧ s.mea.proof.Granted t.mea.proof ∧ s.mea.routine.Granted t.mea.routine

namespace KeepsLampRequests

theorem of_eq (hlmp : t.lmp = s.lmp) (hproof : t.mea.proof = s.mea.proof) (hroutine : t.mea.routine = s.mea.routine) :
    KeepsLampRequests s t := ⟨hlmp, .inl hproof, .inl hroutine⟩

theorem refl (s : State) : KeepsLampRequests s s := of_eq rfl rfl rfl

theorem trans (h1 : KeepsLampRequests s t) (h2 : KeepsLampRequests t u) : KeepsLampRequests s u := by
  obtain ⟨hlmp, hproof, hroutine⟩ := h1
  obtain ⟨hlmp', hproof', hroutine'⟩ := h2
  exact ⟨hlmp'.trans hlmp, hproof.trans hproof', hroutine.trans hroutine'⟩

theorem ite {p : Prop} [Decidable p] (ht : KeepsLampRequests s t) (hu : KeepsLampRequests s u) :
    KeepsLampRequests s (if p then t else u) := by
  split <;> assumption

end KeepsLampRequests

theorem place_keepsLampRequests {i : MSlot} (hi : i = .cbl ∨ i = .diag) (r : Req) (s : State) :
    KeepsLampRequests s (place i r s) := by
  refine .ite ?_ (.refl s)
  rcases hi with rfl | rfl
  · exact .of_eq rfl rfl rfl
  · exact .of_eq rfl rfl rfl

theorem startTest_keepsLampRequests (s : State) : KeepsLampRequests s (startTest s) := by
  refine .ite (.refl s) ?_
  split
  · exact .of_eq rfl rfl rfl
  · exact .refl s

theorem placeCbl_keepsLampRequests (s : State) : KeepsLampRequests s (placeCbl s) := by
  unfold placeCbl
  split
  · exact .refl s
  · split
    · exact .refl s
    · exact .ite (.refl s) (.trans (t := s.onCbl _) (.of_eq rfl rfl rfl) (place_keepsLampRequests (.inl rfl) _ _))

theorem placeDiag_keepsLampRequests (s : State) : KeepsLampRequests s (placeDiag s) := by
  have due (f : Mea → Mea) (r : Req) (hproof : (f s.mea).proof = s.mea.proof)
      (hroutine : (f s.mea).routine = s.mea.routine) : KeepsLampRequests s (place .diag r (s.onMea f)) :=
    .trans (t := s.onMea f) (.of_eq rfl hproof hroutine) (place_keepsLampRequests (.inr rfl) _ _)
  exact .ite (.refl s) (.ite (due _ _ rfl rfl) (.ite (due _ _ rfl rfl) (.ite (due _ _ rfl rfl) (.refl s))))

theorem SlotContent.waiting?_eq_some_iff {x : SlotContent} {q : Req} : x.waiting? = some q ↔ x = .waiting q := by
  cases x <;> simp [SlotContent.waiting?]

theorem grant_keepsLampRequests (n : Nat) (s : State) : KeepsLampRequests s (grant n s) := by
  unfold grant
  refine .ite (.refl s) ?_
  split
  · exact .refl s
  next i _ =>
    split
    · exact .refl s
    next q hq =>
      have hslot : s.mea.slot i = .waiting q := SlotContent.waiting?_eq_some_iff.mp hq
      cases i with
      | proof => exact ⟨rfl, .inr ⟨q, hslot, rfl⟩, .refl _⟩
      | routine => exact ⟨rfl, .refl _, .inr ⟨q, hslot, rfl⟩⟩
      | cbl => exact .of_eq rfl rfl rfl
      | diag => exact .of_eq rfl rfl rfl

/-- With no event waiting for FLT, what LMP has placed stays placed to the end of the command. -/
theorem conclude_keepsLampRequests (h : s.flt.inbox = []) :
    KeepsLampRequests (placeRoutine (placeProof s)) (conclude s) := by
  have hsettle : KeepsLampRequests (placeRoutine (placeProof s)) (settle s) := by
    rw [settle, drain_of_empty _ _ h]
    exact (startTest_keepsLampRequests _).trans <| (placeCbl_keepsLampRequests _).trans <|
      (placeDiag_keepsLampRequests _).trans (grant_keepsLampRequests 0 _)
  exact hsettle.trans (.of_eq rfl rfl rfl)

theorem Places.osw_eq (h : Places s t) : t.osw = s.osw := by
  unfold Places at h
  rw [h]

/-- LMP's two commands, each where its condition holds. -/
theorem lampTimes_eq {i : Instr} (h : (i = .lampSettleTimeElapsed c ∧ evaluable s c = true) ∨
    (i = .offCheckEligibilityTime c ∧ offEligible s c = true)) : exec i s = .next (conclude s) := by
  rcases h with ⟨rfl, h⟩ | ⟨rfl, h⟩
  · exact if_pos h
  · exact if_pos h

end Sys2Proof.Machine

namespace Sys2Proof.Proofs

open Sys2Proof Sys2Proof.Machine

/-- Settles O53. The conditions are `evaluable_iff`, `awaitingProof_iff` and `offEligible_iff`; the slots are filled by
`placeProof` and then `placeRoutine`, and `conclude_keepsLampRequests` carries what they hold to the command's end. -/
theorem lampRequestsArePlaced : Obligations.LampRequestsArePlaced := by
  unfold Obligations.LampRequestsArePlaced
  refine ⟨fun c s => ⟨?_, awaitingProof_iff, offEligible_iff⟩, ?_⟩
  · rw [← settleTime_eq]
    exact evaluable_iff
  intro c i s hi hinbox hmode routine asked
  have hplaces : Places s (settle s) := settle_places hinbox
  obtain ⟨hjds, hseq, -, -, hflt, -, hlamp, -⟩ := hplaces.frame
  obtain ⟨hlmp, hproof, hroutine⟩ := conclude_keepsLampRequests hinbox
  rw [placeRoutine_proof] at hproof
  obtain ⟨x, hx⟩ := placeProof_eq s
  rw [hx] at hlmp hroutine
  refine ⟨conclude s, lampTimes_eq hi, hjds, hplaces.osw_eq, hseq, hflt, hlamp, ?proof, ?noProof, ?evaluation,
    ?offCheck, ?noRoutine⟩
  case proof =>
    intro d hslot hd hlt
    rw [placeProof_of_awaiting hslot hmode hd hlt] at hproof
    exact hproof.of_waiting
  case noProof =>
    intro hslot hnone
    rw [placeProof_of_none hnone, hslot] at hproof
    exact hproof.of_empty
  case evaluation =>
    intro d hslot hnext hturn
    have hempty : (s.withProof x).mea.routine = .empty := hslot
    rw [placeRoutine_of_evaluation hempty hmode hnext hturn, placeEvaluation_eq hempty] at hlmp hroutine
    rw [hlmp]
    exact ⟨rfl, rfl, rfl, hroutine.of_waiting⟩
  case offCheck =>
    intro d hslot hnext hturn
    have hempty : (s.withProof x).mea.routine = .empty := hslot
    rw [placeRoutine_of_offCheck hempty hmode hnext hturn, placeOffCheck_eq hempty] at hlmp hroutine
    rw [hlmp]
    exact ⟨rfl, rfl, rfl, hroutine.of_waiting⟩
  case noRoutine =>
    intro hslot hnoRoutine hnoOff
    have hempty : (s.withProof x).mea.routine = .empty := hslot
    rw [placeRoutine_of_none (s := s.withProof x) hnoRoutine hnoOff] at hlmp hroutine
    rw [hempty] at hroutine
    exact ⟨hlmp, hroutine.of_empty⟩

end Sys2Proof.Proofs
end

section
/-! PROOF. The test in flight stands on a circuit whose relay is OPEN, and the injector is connected to no other (R148,
R159): what leaves the test, the injector, the relays and the pending switch-on set as they are, what ends in CBL's
watch, and `Obligations.StepKeepsInjectorOnOpenRelay` from them. -/

namespace Sys2Proof.Machine

variable {s t u : State}

/-! ### What R148 and R159 look at -/

/-- The test in flight, the injector's position, the relays and the pending switch-on set are as they were. -/
def Unwatched (s t : State) : Prop :=
  t.cbl.test = s.cbl.test ∧ t.cbl.pos = s.cbl.pos ∧ t.osw.relay = s.osw.relay ∧ t.seq.switchOn = s.seq.switchOn

namespace Unwatched

theorem of_eq (hcbl : t.cbl = s.cbl) (hosw : t.osw = s.osw) (hseq : t.seq = s.seq) : Unwatched s t := by
  rw [Unwatched, hcbl, hosw, hseq]
  exact ⟨rfl, rfl, rfl, rfl⟩

theorem refl (s : State) : Unwatched s s := of_eq rfl rfl rfl

theorem trans (h1 : Unwatched s t) (h2 : Unwatched t u) : Unwatched s u := by
  obtain ⟨htest, hpos, hrelay, hset⟩ := h1
  obtain ⟨htest', hpos', hrelay', hset'⟩ := h2
  exact ⟨htest'.trans htest, hpos'.trans hpos, hrelay'.trans hrelay, hset'.trans hset⟩

theorem ite {p : Prop} [Decidable p] (ht : Unwatched s t) (hu : Unwatched s u) : Unwatched s (if p then t else u) := by
  split <;> assumption

theorem foldl {α : Type} {f : State → α → State} (hf : ∀ t a, Unwatched t (f t a)) (l : List α) (s : State) :
    Unwatched s (l.foldl f s) := by
  induction l generalizing s with
  | nil => exact refl s
  | cons a l ih => exact (hf s a).trans (ih _)

theorem forEach {n : Nat} {f : Fin n → State → State} (hf : ∀ i t, Unwatched t (f i t)) (s : State) :
    Unwatched s (Machine.forEach f s) := foldl (fun t i => hf i t) _ s

theorem of_addsDemand (h : AddsDemand s t) : Unwatched s t := by
  rw [h.1]
  exact refl s

end Unwatched

theorem InjectorOnTest.congr (h : InjectorOnTest s) (hu : Unwatched s t) : InjectorOnTest t := by
  obtain ⟨htest, hpos, hrelay, hset⟩ := hu
  unfold InjectorOnTest relayState relayAt
  rw [htest, hpos, hrelay, hset]
  exact h

theorem injectorOnTest_ite {p : Prop} [Decidable p] (ht : InjectorOnTest t) (hu : InjectorOnTest u) :
    InjectorOnTest (if p then t else u) := by
  split <;> assumption

/-- A pending switch-on set that is left alone or emptied. -/
theorem InjectorOnTest.onSeq (h : InjectorOnTest s) {f : Seq → Seq}
    (hf : (f s.seq).switchOn = s.seq.switchOn ∨ (f s.seq).switchOn = Tab.const 48 false) :
    InjectorOnTest (s.onSeq f) := by
  refine ⟨fun w hw => ?_, h.2⟩
  obtain ⟨hopen, henter, hset⟩ := h.1 w hw
  refine ⟨hopen, henter, ?_⟩
  rw [State.onSeq_seq]
  rcases hf with hf | hf
  · rw [hf, hset]
  · rw [hf, Tab.get_const]

/-- With no test in flight and the injector not ON, nothing is asked of the relays. -/
theorem injectorOnTest_of_idle (htest : s.cbl.test = none) (hpos : ∀ c m, s.cbl.pos ≠ .on c m) : InjectorOnTest s :=
  ⟨fun w hw => by simp [htest] at hw, fun c m hc => absurd hc (hpos c m)⟩

/-! ### CBL's watch -/

/-- The injector is connected to no other circuit than that of the test in flight, whatever its relay shows. -/
def InjectorConnected (s : State) : Prop := ∀ c m, s.cbl.pos = .on c m → ∃ w, s.cbl.test = some w ∧ w.circuit = c

theorem InjectorConnected.congr (h : InjectorConnected s) (hcbl : t.cbl = s.cbl) : InjectorConnected t := by
  rw [InjectorConnected, hcbl]
  exact h

/-- R159: the circuit of the test is listed, entering, or its relay is not OPEN. -/
def Drawn (s : State) (w : Test) : Prop :=
  s.seq.switchOn.get w.circuit = true ∨ (relayAt s w.circuit).entering = true ∨ relayState s w.circuit ≠ .open

theorem cblWatch_of_some {w : Test} (hw : s.cbl.test = some w) :
    (Drawn s w → cblWatch s = abandon s) ∧ (¬Drawn s w → cblWatch s = s) := by
  have hdrawn : (s.seq.switchOn.get w.circuit || (relayAt s w.circuit).entering ||
      decide (relayState s w.circuit ≠ .open)) = true ↔ Drawn s w := by
    simp [Drawn, or_assoc]
  simp only [cblWatch, hw]
  exact ⟨fun h => if_pos (hdrawn.mpr h), fun h => if_neg (mt hdrawn.mp h)⟩

theorem abandon_idle {w : Test} (hw : s.cbl.test = some w) :
    (abandon s).cbl.test = none ∧ ∀ c m, (abandon s).cbl.pos ≠ .on c m := by
  obtain ⟨hnone, hreleases, -⟩ := abandon_of_some hw
  exact ⟨hnone, hreleases.not_on⟩

/-- R159: after the watch the test in flight, if any, is not drawn. -/
theorem cblWatch_injectorOnTest (h : InjectorConnected s) : InjectorOnTest (cblWatch s) := by
  cases hw : s.cbl.test with
  | none =>
    rw [cblWatch_of_none hw]
    exact ⟨fun w hw' => by simp [hw] at hw', h⟩
  | some w =>
    obtain ⟨habandon, hstay⟩ := cblWatch_of_some hw
    by_cases hdrawn : Drawn s w
    · obtain ⟨hnone, hpos⟩ := abandon_idle hw
      rw [habandon hdrawn]
      exact injectorOnTest_of_idle hnone hpos
    · rw [hstay hdrawn]
      refine ⟨fun x hx => ?_, h⟩
      cases hw.symm.trans hx
      simp only [Drawn, not_or, Bool.not_eq_true, not_not] at hdrawn
      obtain ⟨hset, henter, hopen⟩ := hdrawn
      exact ⟨hopen, henter, hset⟩

theorem abandon_injectorOnTest (h : InjectorOnTest s) : InjectorOnTest (abandon s) := by
  cases hw : s.cbl.test with
  | none => rwa [abandon_of_none hw]
  | some w => exact injectorOnTest_of_idle (abandon_idle hw).1 (abandon_idle hw).2

theorem commandRelease_pos (afterTest : Bool) (s : State) (c : Circuit) (m : InjMode) :
    (commandRelease afterTest s).cbl.pos ≠ .on c m := by
  unfold commandRelease
  split
  · simp
  next h => exact h c m

/-! ### Measurements placed -/

theorem place_unwatched (i : MSlot) (r : Req) (s : State) : Unwatched s (place i r s) := .ite (.refl s) (.refl s)

theorem placeProof_unwatched (s : State) : Unwatched s (placeProof s) := by
  obtain ⟨x, heq⟩ := placeProof_eq s
  rw [heq]
  exact .refl s

theorem placeRoutine_unwatched (s : State) : Unwatched s (placeRoutine s) := by
  unfold placeRoutine
  refine .ite (.refl s) ?_
  simp only
  split
  · exact .ite (place_unwatched _ _ _) (place_unwatched _ _ _)
  · exact place_unwatched _ _ _
  · exact place_unwatched _ _ _
  · exact .refl s

theorem placeDiag_unwatched (s : State) : Unwatched s (placeDiag s) := by
  have due (f : Mea → Mea) (r : Req) : Unwatched s (place .diag r (s.onMea f)) := place_unwatched _ _ _
  exact .ite (.refl s) (.ite (due _ _) (.ite (due _ _) (.ite (due _ _) (.refl s))))

theorem grant_unwatched (n : Nat) (s : State) : Unwatched s (grant n s) := by
  unfold grant
  refine .ite (.refl s) ?_
  split
  · exact .refl s
  · split <;> exact .refl s

/-- R151: the oldest is one of those asked about. -/
theorem oldest_mem {l : List Circuit} {c : Circuit} (h : oldest s l = some c) : c ∈ l := by
  induction l generalizing c with
  | nil => simp [oldest] at h
  | cons d l ih =>
    unfold oldest at h
    split at h
    next => simp_all
    next e he =>
      split at h
      · simp_all
      · exact List.mem_cons_of_mem _ (Option.some.inj h ▸ ih he)

/-- R150, R151: a test starts on an eligible circuit alone. -/
theorem nextTest_eligible {c : Circuit} (h : nextTest s = some c) : testEligible s c = true := by
  have eligible {p : Circuit → Bool} {d : Circuit} (hd : ((allFin 48).filter (testEligible s)).find? p = some d) :
      testEligible s d = true := (List.mem_filter.mp (List.mem_of_find?_eq_some hd)).2
  unfold nextTest at h
  simp only at h
  split at h
  next d hd => exact Option.some.inj h ▸ eligible hd
  next =>
    split at h
    next d hd => exact Option.some.inj h ▸ eligible hd
    next => exact (List.mem_filter.mp (List.mem_filter.mp (oldest_mem h)).1).2

/-- R150: which circuits are eligible for a test. -/
theorem testEligible_iff {c : Circuit} : testEligible s c = true ↔
    s.jds.fitted c = true ∧ (s.cbl.cable.get c).suspended = false ∧ relayState s c = .open ∧
    (∀ x, (relayAt s c).coil.lastChange = some x → 500 ≤ x.elapsed) ∧ s.seq.switchOn.get c = false ∧
    (relayAt s c).entering = false ∧ s.cbl.pos = .free := by
  simp only [testEligible, Bool.and_eq_true, decide_eq_true_eq, longSince_iff, Bool.not_eq_true', cableAt, and_assoc]

theorem startTest_of_next {c : Circuit} (htest : s.cbl.test = none) (hnext : nextTest s = some c) :
    startTest s = s.onCbl fun x => { x with test := some { circuit := c } } := by
  simp [startTest, htest, hnext]

theorem startTest_of_some {w : Test} (hw : s.cbl.test = some w) : startTest s = s := by simp [startTest, hw]

theorem startTest_of_none (hnext : nextTest s = none) : startTest s = s := by simp [startTest, hnext]

theorem startTest_injectorOnTest (h : InjectorOnTest s) : InjectorOnTest (startTest s) := by
  cases hw : s.cbl.test with
  | some w => rwa [startTest_of_some hw]
  | none =>
    cases hnext : nextTest s with
    | none => rwa [startTest_of_none hnext]
    | some c =>
      obtain ⟨-, -, hopen, -, hset, henter, hfree⟩ := testEligible_iff.mp (nextTest_eligible hnext)
      rw [startTest_of_next hw hnext]
      refine ⟨fun x hx => ?_, fun d m hd => ?_⟩
      · cases Option.some.inj hx
        exact ⟨hopen, henter, hset⟩
      · rw [State.onCbl_cbl] at hd
        simp [hfree] at hd

/-- R152 to R154: the test in flight goes on, on its circuit, and the injector stays or is connected to that circuit. -/
theorem InjectorOnTest.goesOn (h : InjectorOnTest s) {w : Test} (hw : s.cbl.test = some w) {f : Cbl → Cbl} {x : Test}
    (hx : x.circuit = w.circuit) (htest : (f s.cbl).test = some x)
    (hpos : ∀ c m, (f s.cbl).pos = .on c m → s.cbl.pos = .on c m ∨ c = w.circuit) : InjectorOnTest (s.onCbl f) := by
  refine ⟨fun y hy => ?_, fun c m hc => ⟨x, htest, ?_⟩⟩
  · cases htest.symm.trans hy
    have hstands := h.1 w hw
    rw [← hx] at hstands
    exact hstands
  · rcases hpos c m hc with hon | hon
    · obtain ⟨v, hv, hcircuit⟩ := h.2 c m hon
      cases hw.symm.trans hv
      exact hx.trans hcircuit
    · exact hx.trans hon.symm

theorem placeCbl_injectorOnTest (h : InjectorOnTest s) : InjectorOnTest (placeCbl s) := by
  unfold placeCbl
  split
  · exact h
  next w hw =>
    split
    · exact h
    · exact injectorOnTest_ite h
        ((h.goesOn hw (f := fun c => { c with test := some { w with placed := true } }) (x := { w with placed := true })
          rfl rfl fun _ _ hc => .inl hc).congr (place_unwatched _ _ _))

theorem measures_injectorOnTest (n : Nat) (h : InjectorOnTest s) : InjectorOnTest (measures n s) := by
  have started := startTest_injectorOnTest (h.congr ((placeProof_unwatched s).trans (placeRoutine_unwatched _)))
  exact (placeCbl_injectorOnTest started).congr ((placeDiag_unwatched _).trans (grant_unwatched n _))

theorem ownerPlaces_injectorOnTest (i : MSlot) (h : InjectorOnTest s) : InjectorOnTest (ownerPlaces i s) := by
  cases i with
  | proof => exact h.congr (placeProof_unwatched s)
  | routine => exact h.congr (placeRoutine_unwatched s)
  | cbl => exact placeCbl_injectorOnTest (startTest_injectorOnTest h)
  | diag => exact h.congr (placeDiag_unwatched s)

/-! ### OSW -/

theorem askCircuit_connected (c : Circuit) (h : InjectorConnected s) : InjectorConnected (askCircuit c s) := by
  by_cases hask : MustAsk s c
  · rw [askCircuit_of_must hask]
    exact fun d m hd => absurd hd (commandRelease_pos _ _ d m)
  · rwa [askCircuit_of_not hask]

/-- R159: what OSW judges ends in CBL's watch, whatever became of the relays. -/
theorem oswAfter_injectorOnTest (h : InjectorConnected s) : InjectorOnTest (oswAfter s) := by
  have judged : InjectorConnected (forEach judgeCircuit (darkCheck s)) :=
    h.congr ((judged_switches _).cbl.trans (darkCheck_frame s).1)
  have asked : InjectorConnected (switched s) := forEach_keeps (fun c t ht => askCircuit_connected c ht) judged
  rw [oswAfter_eq]
  exact cblWatch_injectorOnTest (asked.congr (monitored_frame _).2.1)

theorem contactorTo_unwatched (r : Coil × CoilFault) (s : State) : Unwatched s (contactorTo r s) := by
  rw [contactorTo_eq]
  refine ⟨rfl, rfl, rfl, ?_⟩
  dsimp only
  split <;> rfl

theorem groupCommand_injectorOnTest (g : Group) (st : GState) (h : InjectorOnTest s) :
    InjectorOnTest (groupCommand g st s) := by
  have acted : InjectorConnected (act g (store g st s)) :=
    InjectorConnected.congr (s := s) h.2 (act_switches g (store g st s)).cbl
  exact injectorOnTest_ite (oswAfter_injectorOnTest acted) (h.congr (.refl s))

theorem oswMode_injectorOnTest (m : Mode) (h : InjectorOnTest s) : InjectorOnTest (oswMode m s) := by
  have reds : InjectorConnected (forEach act (enterPhase .redsFirst s)) :=
    InjectorConnected.congr (s := s) h.2 (Switches.forEach act_switches (enterPhase .redsFirst s)).cbl
  have dark : InjectorConnected (darkStart s) := by
    unfold darkStart
    generalize hu : s.onOsw _ = v
    obtain ⟨k, f, q, -, heq⟩ := commandContactor_frame false v
    refine InjectorConnected.congr (s := s) h.2 ?_
    rw [heq, ← hu]
    rfl
  unfold oswMode
  split
  · exact injectorOnTest_ite (oswAfter_injectorOnTest reds) h
  · exact injectorOnTest_ite (oswAfter_injectorOnTest dark) h
  · exact h

/-! ### SEQ -/

theorem post_unwatched (k : ReportKind) (a : Bool) (j : RSubject) (l : List Byte) (s : State) :
    Unwatched s (post k a j l s) := .refl s

theorem takePlan_unwatched (o : Occasion) (s : State) : Unwatched s (takePlan o s) := by
  obtain ⟨P, p, v, -, heq⟩ := takePlan_eq o s
  rw [heq]
  exact .refl s

theorem startMaximum_unwatched (s : State) : Unwatched s (startMaximum s) := .ite (.refl s) (.refl s)

theorem seqReact_unwatched (s : State) : Unwatched s (seqReact s) := by
  obtain ⟨m, g, b, heq, -⟩ := seqReact_eq s
  rw [heq]
  exact .refl s

theorem stopCurrent_unwatched (s : State) : Unwatched s (stopCurrent s) := by
  unfold stopCurrent
  split
  · exact .refl s
  · generalize hu : s.onSeq _ = v
    have left : Unwatched s v := by
      rw [← hu]
      exact .refl s
    exact left.trans (.of_addsDemand (repost_addsDemand _ v))

/-- R35, R159: the new pending switch-on set is shown to CBL. -/
theorem commitEntry_injectorOnTest (a : Option Stage) (o : Occasion) (h : InjectorOnTest s) :
    InjectorOnTest (commitEntry a o s) :=
  cblWatch_injectorOnTest (h.congr ((takePlan_unwatched o s).trans (startMaximum_unwatched _))).2

theorem seqEnd_injectorOnTest (h : InjectorOnTest s) : InjectorOnTest (seqEnd s) :=
  injectorOnTest_ite (commitEntry_injectorOnTest _ _ (injectorOnTest_ite h (h.onSeq (.inl rfl)))) h

theorem terminate_injectorOnTest (h : InjectorOnTest s) : InjectorOnTest (terminate s) :=
  injectorOnTest_ite (commitEntry_injectorOnTest _ _ h) h

theorem stageBegin_injectorOnTest (k : Stage) (e : Entry) (n : Nat) (h : InjectorOnTest s) :
    InjectorOnTest (stageBegin k e n s) :=
  terminate_injectorOnTest ((h.onSeq (.inr rfl)).congr ((startMaximum_unwatched _).trans (post_unwatched _ _ _ _ _)))

theorem enterAllRedHeld_injectorOnTest (prev : Option Stage) (n : Nat) (h : InjectorOnTest s) :
    InjectorOnTest (enterAllRedHeld prev n s) := (h.onSeq (.inr rfl)).congr (post_unwatched _ _ _ _ _)

theorem issue_injectorOnTest (e : TtEntry) (h : InjectorOnTest s) : InjectorOnTest (issue e s) :=
  groupCommand_injectorOnTest _ _ (h.congr (.refl s))

theorem reachEntry_injectorOnTest (e : TtEntry) (h : InjectorOnTest s) : InjectorOnTest (reachEntry e s) :=
  injectorOnTest_ite (h.congr (.refl s)) (issue_injectorOnTest e h)

theorem foldl_injectorOnTest {α : Type} {f : State → α → State} (hf : ∀ t a, InjectorOnTest t → InjectorOnTest (f t a))
    (l : List α) (h : InjectorOnTest s) : InjectorOnTest (l.foldl f s) := by
  induction l generalizing s with
  | nil => exact h
  | cons a l ih => exact ih (hf s a h)

theorem heldCheck_injectorOnTest (h : InjectorOnTest s) : InjectorOnTest (heldCheck s) :=
  foldl_injectorOnTest (fun _ e ht => injectorOnTest_ite (issue_injectorOnTest e ht) ht) _ h

theorem endInterstage_injectorOnTest (h : InjectorOnTest s) : InjectorOnTest (endInterstage s) := by
  unfold endInterstage
  split
  · exact stageBegin_injectorOnTest _ _ _ h
  · exact enterAllRedHeld_injectorOnTest _ _ h

theorem afterLead_injectorOnTest (tg : Target) (l : List TtEntry) (k : Option Stage) (h : InjectorOnTest s) :
    InjectorOnTest (afterLead tg l k s) := by
  unfold afterLead
  split
  · exact stageBegin_injectorOnTest _ _ _ h
  · exact enterAllRedHeld_injectorOnTest _ _ h
  · exact injectorOnTest_ite (h.congr (.refl s)) (h.congr (.refl s))

theorem leadExpires_injectorOnTest (h : InjectorOnTest s) : InjectorOnTest (leadExpires s) :=
  afterLead_injectorOnTest _ _ _ (injectorOnTest_ite h (h.congr (stopCurrent_unwatched s)))

theorem seqIdle_injectorOnTest (h : InjectorOnTest s) : InjectorOnTest (seqIdle s) :=
  (h.congr (stopCurrent_unwatched s)).onSeq (.inr rfl)

theorem seqStart_injectorOnTest (h : InjectorOnTest s) : InjectorOnTest (seqStart s) :=
  forEach_keeps (fun _ t ht => injectorOnTest_ite (groupCommand_injectorOnTest _ _ (ht.congr (.refl t))) ht)
    (h.onSeq (.inr rfl))

/-- R50, R159: the recomputed switch-on set is shown to CBL. -/
theorem emptyTarget_injectorOnTest (h : InjectorOnTest s) : InjectorOnTest (emptyTarget s) := by
  unfold emptyTarget
  split
  · exact cblWatch_injectorOnTest h.2
  · exact h

theorem seqAllRed_injectorOnTest (h : InjectorOnTest s) : InjectorOnTest (seqAllRed s) := by
  have cleared : InjectorOnTest (s.onSeq fun q => { q with pendingAdvance := none }) := h.congr (.refl s)
  exact injectorOnTest_ite (emptyTarget_injectorOnTest cleared) (terminate_injectorOnTest cleared)

theorem noStage_injectorOnTest (h : InjectorOnTest s) : InjectorOnTest (noStage s) := h.congr (.refl s)

theorem seqMode_injectorOnTest (prev new : Mode) (h : InjectorOnTest s) : InjectorOnTest (seqMode prev new s) := by
  unfold seqMode
  split
  · exact seqIdle_injectorOnTest h
  · exact seqIdle_injectorOnTest h
  · exact seqStart_injectorOnTest h
  · exact seqAllRed_injectorOnTest h
  · exact seqEnd_injectorOnTest h
  · exact commitEntry_injectorOnTest _ _ (noStage_injectorOnTest h)
  · exact h

theorem advanceTo_injectorOnTest (x : Stage) (h : InjectorOnTest s) : InjectorOnTest (advanceTo x s) := by
  have pending : InjectorOnTest (s.onSeq fun q => { q with pendingAdvance := some x }) := h.congr (.refl s)
  unfold advanceTo
  split
  · exact injectorOnTest_ite h (injectorOnTest_ite pending (commitEntry_injectorOnTest _ _ h))
  · exact pending
  · exact pending
  · exact h

theorem minimumExpires_injectorOnTest (h : InjectorOnTest s) : InjectorOnTest (minimumExpires s) := by
  have past : InjectorOnTest (s.onSeq fun q => { q with substate := some (substatePast s) }) := h.congr (.refl s)
  unfold minimumExpires
  simp only
  split
  · exact injectorOnTest_ite (commitEntry_injectorOnTest _ _ past) past
  · exact seqEnd_injectorOnTest past

theorem startUpEnds_injectorOnTest (h : InjectorOnTest s) : InjectorOnTest (startUpEnds s) := by
  have taken := (noStage_injectorOnTest h).congr (takePlan_unwatched .startUp _)
  exact injectorOnTest_ite (enterAllRedHeld_injectorOnTest _ _ taken) (commitEntry_injectorOnTest _ _ taken)

/-! ### FLT -/

theorem clearEntry_unwatched (k : FaultKind) (j : Subject) (s : State) : Unwatched s (clearEntry k j s) := .refl s

theorem clearEntries_unwatched (l : List FEntry) (s : State) :
    Unwatched s (l.foldl (fun t e => clearEntry e.kind e.subject t) s) :=
  .foldl (f := fun t (e : FEntry) => clearEntry e.kind e.subject t)
    (fun t e => clearEntry_unwatched e.kind e.subject t) l s

theorem passEntry_unwatched (k : FaultKind) (j : Subject) (s : State) : Unwatched s (passEntry k j s) :=
  .ite (clearEntry_unwatched k j s) (.refl s)

theorem takePassed_unwatched (k : FaultKind) (j : Subject) (s : State) : Unwatched s (takePassed k j s) :=
  .ite ((passEntry_unwatched k j s).trans (passEntry_unwatched _ j _)) (passEntry_unwatched k j s)

theorem record_unwatched (k : FaultKind) (j : Subject) (s : State) : Unwatched s (record k j s).2 := by
  rw [(record_eq k j s).1]
  exact .refl s

theorem changeMode_injectorOnTest (new : Mode) (cause : ModeCause) (h : InjectorOnTest s) :
    InjectorOnTest (changeMode new cause s) := by
  have entered : InjectorOnTest (if new = .dark then setAside (s.onFlt fun f => { f with mode := new })
      else s.onFlt fun f => { f with mode := new }) := injectorOnTest_ite (h.congr (.refl s)) (h.congr (.refl s))
  have handed := oswMode_injectorOnTest new (seqMode_injectorOnTest s.flt.mode new entered)
  have restarted := injectorOnTest_ite (p := (s.flt.mode = .dark && new = .startUp) = true)
    (t := lmpRestart _) (handed.congr (.refl _)) handed
  exact restarted.congr (post_unwatched _ _ _ _ _)

theorem enterDark_injectorOnTest (d : DarkCause) (cause : ModeCause) (h : InjectorOnTest s) :
    InjectorOnTest (enterDark d cause s) := changeMode_injectorOnTest _ _ (h.congr (.refl s))

theorem startUp_injectorOnTest (cause : ModeCause) (h : InjectorOnTest s) : InjectorOnTest (startUp cause s) := by
  have started : InjectorOnTest (clearStandIns (changeMode .startUp cause s)) :=
    (changeMode_injectorOnTest .startUp cause h).congr (clearEntries_unwatched _ _)
  unfold startUp
  simp only
  split
  · exact injectorOnTest_ite (changeMode_injectorOnTest _ _ started) started
  · exact started

theorem autoRestart_injectorOnTest (h : InjectorOnTest s) : InjectorOnTest (autoRestart s) :=
  injectorOnTest_ite (startUp_injectorOnTest _ h) h

theorem takeClear_injectorOnTest (k : FaultKind) (j : Subject) (h : InjectorOnTest s) :
    InjectorOnTest (takeClear k j s) := by
  have cleared := h.congr (clearEntry_unwatched k j s)
  unfold takeClear
  split
  · exact h.congr (post_unwatched _ _ _ _ _)
  · split
    · exact autoRestart_injectorOnTest cleared
    · exact cleared
    · exact h

theorem respond_injectorOnTest (r : Response) (k : FaultKind) (j : Subject) (h : InjectorOnTest s) :
    InjectorOnTest (respond r k j s) :=
  injectorOnTest_ite (injectorOnTest_ite (h.congr (.refl s)) h)
    (injectorOnTest_ite (enterDark_injectorOnTest _ _ h) (changeMode_injectorOnTest _ _ h))

theorem fltTake_injectorOnTest (e : FltEvent) (h : InjectorOnTest s) : InjectorOnTest (fltTake e s) := by
  cases e with
  | raise k j d =>
    exact respond_injectorOnTest _ k j (h.congr ((record_unwatched k j s).trans (post_unwatched _ _ _ _ _)))
  | clear k j => exact takeClear_injectorOnTest k j h
  | passed k j => exact h.congr (takePassed_unwatched k j s)
  | firstInterstage => exact injectorOnTest_ite (changeMode_injectorOnTest _ _ h) h

theorem drain_injectorOnTest (n : Nat) (h : InjectorOnTest s) : InjectorOnTest (drain n s) := by
  induction n generalizing s with
  | zero => exact h.congr (.refl s)
  | succ n ih =>
    unfold drain
    split
    · exact h
    · exact ih (fltTake_injectorOnTest _ (h.congr (.refl s)))

theorem settle_injectorOnTest (h : InjectorOnTest s) : InjectorOnTest (settle s) :=
  measures_injectorOnTest 0 (drain_injectorOnTest eventFuel h)

theorem conclude_injectorOnTest (h : InjectorOnTest s) : InjectorOnTest (conclude s) :=
  (settle_injectorOnTest h).congr (.refl _)

/-- The end of a change of a relay, of the contactor or of the injector. -/
theorem oswDone_injectorOnTest (h : InjectorConnected s) : InjectorOnTest (oswDone s) :=
  conclude_injectorOnTest (oswAfter_injectorOnTest h)

end Sys2Proof.Machine
end

section
/-! PROOF. `Obligations.StepKeepsInjectorOnOpenRelay` (R148, R159): results, detector events, requests and the end of a
moment keep the test in flight on an OPEN relay, each by the shared operation it ends in. -/

namespace Sys2Proof.Machine

variable {s t u : State}

/-! ### Results -/

theorem onChange_unwatched (was now : Bool) (k : FaultKind) (j : Subject) (s : State) :
    Unwatched s (onChange was now k j s) := .ite (.refl s) (.ite (.refl s) (.refl s))

theorem tell_unwatched (p : Prop) [Decidable p] (e : FltEvent) (s : State) : Unwatched s (if p then toFlt e s else s) :=
  .ite (.refl s) (.refl s)

theorem lampFaults_unwatched (c : Circuit) (x y : Lamp) (detail : Byte) (s : State) :
    Unwatched s (lampFaults c x y detail s) := by
  have red (a b : Prop) [Decidable a] [Decidable b] (e f : FltEvent) :
      Unwatched s (if a then toFlt e s else if b then toFlt f s else s) := .ite (.refl s) (tell_unwatched b f s)
  exact (red _ _ _ _).trans <| (tell_unwatched _ _ _).trans <| (tell_unwatched _ _ _).trans <|
    (tell_unwatched _ _ _).trans <| (tell_unwatched _ _ _).trans <| onChange_unwatched _ _ _ _ _

theorem lampPassed_unwatched (c : Circuit) (y : Lamp) (s : State) : Unwatched s (lampPassed c y s) :=
  (tell_unwatched _ _ _).trans <| (tell_unwatched _ _ _).trans <| (tell_unwatched _ _ _).trans <| tell_unwatched _ _ _

theorem takeEvaluation_injectorOnTest (c : Circuit) (count : BitVec 16) (r : Nat) (h : InjectorOnTest s) :
    InjectorOnTest (takeEvaluation c count r s) := by
  have section_ (f : Lamp → Lamp) : Unwatched s (onLamp c f s) := .refl s
  have entered (p : Prop) [Decidable p] (t : State) : Unwatched t (if p then enterOut c t else t) :=
    .ite (.refl t) (.refl t)
  have learned (p : Prop) [Decidable p] (y : Lamp) (t : State) : Unwatched t (if p then learnDone c y t else t) :=
    .ite (.refl t) (.refl t)
  have proven (p : Prop) [Decidable p] {t : State} (ht : InjectorOnTest t) :
      InjectorOnTest (if p then heldCheck t else t) := injectorOnTest_ite (heldCheck_injectorOnTest ht) ht
  have passed (p : Prop) [Decidable p] (y : Lamp) (t : State) : Unwatched t (if p then lampPassed c y t else t) :=
    .ite (lampPassed_unwatched c y t) (.refl t)
  exact (proven _ (h.congr ((section_ _).trans ((entered _ _).trans (learned _ _ _))))).congr
    ((lampFaults_unwatched _ _ _ _ _).trans (passed _ _ _))

theorem takeOffCheck_unwatched (c : Circuit) (r : Nat) (s : State) : Unwatched s (takeOffCheck c r s) := by
  have section_ (f : Lamp → Lamp) : Unwatched s (onLamp c f s) := .refl s
  exact (section_ _).trans ((onChange_unwatched _ _ _ _ _).trans (tell_unwatched _ _ _))

theorem takeCurrent_injectorOnTest (x : Result) (c : Circuit) (h : InjectorOnTest s) :
    InjectorOnTest (takeCurrent x c s) :=
  injectorOnTest_ite h <| injectorOnTest_ite (injectorOnTest_ite (h.congr (takeOffCheck_unwatched _ _ s)) h) <|
    injectorOnTest_ite (takeEvaluation_injectorOnTest _ _ _ h) h

theorem cableFaults_unwatched (c : Circuit) (x y : Cable) (s : State) : Unwatched s (cableFaults c x y s) :=
  (onChange_unwatched _ _ _ _ s).trans <| (onChange_unwatched _ _ _ _ _).trans <|
    (onChange_unwatched _ _ _ _ _).trans <| onChange_unwatched _ _ _ _ _

theorem cableStateAfter_unwatched (c : Circuit) (was : CableState) (s : State) :
    Unwatched s (cableStateAfter c was s) := by
  have reported : Unwatched s (if cableState s c = was then s else cableReport c s) := .ite (.refl s) (.refl s)
  exact .ite reported reported

/-- R158: the test is over and its release commanded before anything else of its completion. -/
theorem completeTest_injectorOnTest (w : Test) (leak : Nat) (s : State) : InjectorOnTest (completeTest w leak s) := by
  have ended (f : Cable → Cable) :
      InjectorOnTest (onCable w.circuit f ((commandRelease true s).onCbl fun z => { z with test := none })) :=
    injectorOnTest_of_idle rfl (commandRelease_pos true s)
  exact (drain_injectorOnTest eventFuel ((ended _).congr (cableFaults_unwatched _ _ _ _))).congr
    (cableStateAfter_unwatched _ _ _)

/-- R152, R153: a step of the test leaves its circuit, and connects the injector to that circuit alone. -/
theorem testResult_injectorOnTest {w : Test} (hw : s.cbl.test = some w) (r : Nat) (h : InjectorOnTest s) :
    InjectorOnTest (testResult w r s) := by
  have connected (m : InjMode) {x : Test} (hx : x.circuit = w.circuit) :
      InjectorOnTest (setTest x (connect w.circuit m s)) :=
    h.goesOn hw (f := fun z => { z with pos := .on w.circuit m, test := some x }) hx rfl fun _ _ hc => by
      simp only [InjPos.on.injEq] at hc
      exact .inr hc.1.symm
  have asked {x : Test} (hx : x.circuit = w.circuit) : InjectorOnTest (setTest x s) :=
    h.goesOn hw (f := fun z => { z with test := some x }) hx rfl fun _ _ hc => .inl hc
  unfold testResult
  split
  · exact injectorOnTest_ite (connected .test rfl) (connected .load rfl)
  · exact connected .test rfl
  · exact asked rfl
  · exact completeTest_injectorOnTest w r s
  · exact h
  · exact h

theorem takeCable_injectorOnTest (x : Result) (h : InjectorOnTest s) : InjectorOnTest (takeCable x s) := by
  unfold takeCable
  split
  · exact h
  next w hw => exact injectorOnTest_ite (testResult_injectorOnTest hw _ h) h

theorem lmpWatch_unwatched (s : State) : Unwatched s (lmpWatch s) := by
  obtain ⟨l, heq⟩ := lmpWatch_eq s
  rw [heq]
  exact .refl s

theorem takeSupply_unwatched (r : Nat) (s : State) : Unwatched s (takeSupply r s) := by
  obtain ⟨l, heq⟩ := takeSupply_eq r s
  rw [heq]
  exact .refl s

theorem takeOffset_unwatched (r : Nat) (s : State) : Unwatched s (takeOffset r s) := by
  rw [takeOffset_eq]
  exact .refl s

theorem takeRef_unwatched (r : Nat) (s : State) : Unwatched s (takeRef r s) := by
  rw [takeRef_eq]
  exact .refl s

theorem deliver_injectorOnTest (x : Result) (h : InjectorOnTest s) : InjectorOnTest (deliver x s) := by
  unfold deliver
  split
  · exact takeCurrent_injectorOnTest x _ h
  · exact takeCable_injectorOnTest x h
  · exact takeCable_injectorOnTest x h
  · exact takeCable_injectorOnTest x h
  · exact h.congr (takeOffset_unwatched _ s)
  · exact h.congr (takeRef_unwatched _ s)
  · exact h.congr (takeSupply_unwatched _ s)

theorem afterDelivery_injectorOnTest (v : Conv) (h : InjectorOnTest s) : InjectorOnTest (afterDelivery v s) :=
  measures_injectorOnTest _
    ((ownerPlaces_injectorOnTest v.slot (drain_injectorOnTest eventFuel h)).congr (grant_unwatched _ _))

theorem endWindow_injectorOnTest (v : Conv) (input : Int) (h : InjectorOnTest s) :
    InjectorOnTest (endWindow v input s) := by
  have emptied : InjectorOnTest (s.onMea fun m => { m.put v.slot .empty with conv := none }) := h.congr (.refl s)
  refine afterDelivery_injectorOnTest v ?_
  split
  · exact deliver_injectorOnTest _ emptied
  · exact emptied

/-! ### Detector events -/

theorem holdDetector_unwatched (d : Detector) (s : State) : Unwatched s (holdDetector d s) :=
  .of_addsDemand (holdDetector_addsDemand d s)

theorem postings_unwatched (d : Detector) (s : State) : Unwatched s (postings d s) := by
  rw [(postings_posts d s).eq]
  exact .refl s

theorem monitor_injectorOnTest (d : Detector) (f : Det1 → Det1) (e : FltEvent) (h : InjectorOnTest s) :
    InjectorOnTest (monitor d f (toFlt e) s) := by
  have told : Unwatched s (toFlt e (onRec d f s)) := .refl s
  exact (drain_injectorOnTest eventFuel (h.congr (told.trans (holdDetector_unwatched d _)))).congr
    (post_unwatched _ _ _ _ _)

theorem detDone_injectorOnTest (h : InjectorOnTest s) : InjectorOnTest (detDone s) :=
  conclude_injectorOnTest (seqEnd_injectorOnTest (h.congr (seqReact_unwatched s)))

theorem activation_injectorOnTest (d : Detector) (h : InjectorOnTest s) : InjectorOnTest (activation d s) := by
  have silent {t : State} (ht : InjectorOnTest t) : InjectorOnTest (endSilent d t) :=
    injectorOnTest_ite (monitor_injectorOnTest d _ _ ht) ht
  have chatter {t : State} (ht : InjectorOnTest t) : InjectorOnTest (judgeChatter d t) :=
    injectorOnTest_ite (monitor_injectorOnTest d _ _ ht) ht
  have noted (f : Det1 → Det1) : Unwatched s (onRec d f s) := .refl s
  exact detDone_injectorOnTest (chatter (silent (h.congr ((noted _).trans (postings_unwatched d _)))))

theorem release_injectorOnTest (d : Detector) (h : InjectorOnTest s) : InjectorOnTest (release d s) := by
  have noted (f : Det1 → Det1) : InjectorOnTest (onRec d f s) := h.congr (.refl s)
  exact detDone_injectorOnTest (injectorOnTest_ite (monitor_injectorOnTest d _ _ (noted _)) (noted _))

theorem inputChange_injectorOnTest (d : Detector) (closed : Bool) (h : InjectorOnTest s) :
    InjectorOnTest (inputChange d closed s) := by
  have noted : InjectorOnTest (onRec d (fun x => { x with contact := closed }) s) := h.congr (.refl s)
  have timed (f : Det1 → Det1) : InjectorOnTest (onRec d f (onRec d (fun x => { x with contact := closed }) s)) :=
    h.congr (.refl s)
  exact injectorOnTest_ite noted <| injectorOnTest_ite (timed _) <| injectorOnTest_ite
    (injectorOnTest_ite (activation_injectorOnTest d noted) (release_injectorOnTest d noted)) (timed _)

theorem intervalEnd_injectorOnTest (d : Detector) (h : InjectorOnTest s) : InjectorOnTest (intervalEnd d s) := by
  have counted : InjectorOnTest (onRec d Det1.intervalEnd s) := h.congr (.refl s)
  exact injectorOnTest_ite (injectorOnTest_ite (monitor_injectorOnTest d _ _ counted) counted) h

/-! ### Requests -/

/-- The effects of a request keep the test in flight on an OPEN relay. -/
def Judge.KeepsTest (judge : Judge) : Prop := ∀ s, InjectorOnTest s → InjectorOnTest (judge s).2

theorem injectorOnTest_ite_answer {p : Prop} [Decidable p] {x y : Answer × State} (hx : InjectorOnTest x.2)
    (hy : InjectorOnTest y.2) : InjectorOnTest (if p then x else y).2 := by
  split <;> assumption

/-- An answer with effects that are settled. -/
theorem settled_injectorOnTest {a : Answer} (h : InjectorOnTest s) : InjectorOnTest (a, settle s).2 :=
  settle_injectorOnTest h

/-- A request that touches no more than the description, the plans, the detectors, the readings and the link. -/
theorem Judge.keepsTest_of_unwatched {judge : Judge} (hj : ∀ s, Unwatched s (judge s).2) : judge.KeepsTest :=
  fun s h => h.congr (hj s)

theorem withSlot_unwatched (body : List Byte) {judge : Slot → Judge} (hj : ∀ p s, Unwatched s (judge p s).2)
    (s : State) : Unwatched s (withSlot body judge s).2 := by
  unfold withSlot
  split
  · exact hj _ s
  · exact .refl s

theorem unwatched_ite_answer {p : Prop} [Decidable p] {x y : Answer × State} (hx : Unwatched s x.2)
    (hy : Unwatched s y.2) : Unwatched s (if p then x else y).2 := by
  split <;> assumption

theorem whileEditing_unwatched (p : Slot) {judge : Judge} (hj : ∀ s, Unwatched s (judge s).2) (s : State) :
    Unwatched s (whileEditing p judge s).2 := unwatched_ite_answer (hj s) (.refl s)

theorem checkedPlan_unwatched (p : Slot) (checks : List (Nat × Bool)) (f : PlanSlot → PlanSlot) (s : State) :
    Unwatched s (checkedPlan p checks f s).2 := by
  unfold checkedPlan
  split <;> exact .refl s

theorem writeTimings_unwatched (body : List Byte) (p : Slot) (s : State) : Unwatched s (writeTimings body p s).2 := by
  unfold writeTimings
  split
  · exact .refl s
  · exact checkedPlan_unwatched _ _ _ s

theorem evaluate_unwatched (s : State) : Unwatched s (evaluate s) := by
  rw [evaluate_eq]
  exact .refl s

/-- R64: an evaluation after a change of the plans. -/
theorem evaluated_unwatched (f : Plans → Plans) (s : State) : Unwatched s (evaluate (s.onPlans f)) :=
  evaluate_unwatched (s.onPlans f)

theorem judgePlanOpen_unwatched (p : Slot) (s : State) : Unwatched s (judgePlanOpen p s).2 :=
  unwatched_ite_answer (.refl s) (unwatched_ite_answer (.refl s) (.refl s))

theorem judgePlanClose_unwatched (p : Slot) (s : State) : Unwatched s (judgePlanClose p s).2 :=
  evaluated_unwatched _ s

theorem judgePlanSelect_unwatched (body : List Byte) (s : State) : Unwatched s (judgePlanSelect body s).2 :=
  unwatched_ite_answer (evaluated_unwatched _ s) (.refl s)

theorem judgeScheduleWrite_unwatched (body : List Byte) (s : State) : Unwatched s (judgeScheduleWrite body s).2 := by
  unfold judgeScheduleWrite
  split
  · exact .refl s
  · split
    · exact .refl s
    · exact .refl s
    · exact evaluated_unwatched _ s

theorem judgeClockSet_unwatched (body : List Byte) (s : State) : Unwatched s (judgeClockSet body s).2 := by
  unfold judgeClockSet
  split
  · exact .refl s
  · split
    · exact .refl s
    · exact evaluated_unwatched _ s

theorem withFitted_keepsTest (body : List Byte) {judge : Circuit → Judge} (hj : ∀ c, (judge c).KeepsTest) :
    (withFitted body judge).KeepsTest := by
  intro s h
  unfold withFitted
  split
  · exact injectorOnTest_ite_answer (hj _ s h) h
  · exact h

/-- R14 to R21: an acceptance starts the cable sections afresh and leaves test and injector to the change to DARK. -/
theorem accept_injectorOnTest (h : InjectorOnTest s) : InjectorOnTest (accept s) := by
  have dark := enterDark_injectorOnTest .acceptance .acceptance (h.congr (t := withSections s) (.refl s))
  have revised (v : State) : Unwatched v (evaluate (dropInvalid (forEach revalidate v))) := by
    obtain ⟨P, -, heq⟩ := evaluate_revalidated v
    rw [heq]
    exact .refl v
  have emptied (v : State) : Unwatched v (v.onSeq fun q => { q with demand := Tab.const 12 false }) := .refl v
  exact dark.congr ((revised _).trans ((emptied _).trans (clearEntries_unwatched _ _)))

theorem judgeAccept_keepsTest : Judge.KeepsTest judgeAccept := by
  intro s h
  unfold judgeAccept
  split
  · split
    · exact h
    · exact settled_injectorOnTest (accept_injectorOnTest h)
  · exact h

theorem judgeOpen_keepsTest : Judge.KeepsTest judgeOpen := by
  intro s h
  have editing : InjectorOnTest (s.onJds fun j => { j with desc := .editing }) := h.congr (.refl s)
  have opened : InjectorOnTest (if s.flt.mode = .dark then
      changeMode .unconfigured (.request 0x01) (s.onJds fun j => { j with desc := .editing })
      else s.onJds fun j => { j with desc := .editing }) :=
    injectorOnTest_ite (changeMode_injectorOnTest _ _ editing) editing
  have refused (v : State) : Unwatched v (v.onFlt fun f => { f with restartPermitted := false }) := .refl v
  have stopped (v : State) : Unwatched v (lmpWatch (stopDebounce v)) := lmpWatch_unwatched (stopDebounce v)
  unfold judgeOpen
  simp only
  split
  · exact settled_injectorOnTest ((abandon_injectorOnTest (opened.congr (refused _))).congr (stopped _))
  · exact h

theorem judgeRestart_keepsTest : Judge.KeepsTest judgeRestart := by
  intro s h
  have permitted : InjectorOnTest (s.onFlt fun f => { f with restartPermitted := true }) := h.congr (.refl s)
  exact injectorOnTest_ite_answer h <| injectorOnTest_ite_answer h <| injectorOnTest_ite_answer h <|
    injectorOnTest_ite_answer h <| settled_injectorOnTest (startUp_injectorOnTest _ permitted)

theorem judgeResume_keepsTest : Judge.KeepsTest judgeResume := fun _ h =>
  injectorOnTest_ite_answer h <| injectorOnTest_ite_answer h <| injectorOnTest_ite_answer h <|
    settled_injectorOnTest (changeMode_injectorOnTest _ _ h)

theorem judgeAllRed_keepsTest : Judge.KeepsTest judgeAllRed := by
  intro s h
  have left := settle_injectorOnTest (changeMode_injectorOnTest .allRed (.request 0x1A) h)
  unfold judgeAllRed
  split <;> assumption

theorem judgeDark_keepsTest : Judge.KeepsTest judgeDark := fun s h =>
  have entered : InjectorOnTest (s.onFlt fun f => { f with restartPermitted := false, darkCause := .host }) :=
    h.congr (.refl s)
  injectorOnTest_ite_answer h <| injectorOnTest_ite_answer entered <|
    settled_injectorOnTest (enterDark_injectorOnTest _ _ entered)

theorem judgeHold_keepsTest : Judge.KeepsTest judgeHold := by
  intro s h
  have held := settle_injectorOnTest (changeMode_injectorOnTest .hold (.request 0x1C) h)
  unfold judgeHold
  split <;> assumption

theorem judgeRelease_keepsTest : Judge.KeepsTest judgeRelease := by
  intro s h
  have resumed := settle_injectorOnTest (changeMode_injectorOnTest .run (.request 0x1D) h)
  unfold judgeRelease
  split <;> assumption

theorem judgeAdvance_keepsTest (body : List Byte) : (judgeAdvance body).KeepsTest := by
  intro s h
  unfold judgeAdvance
  split
  · exact h
  · split
    · exact h
    · exact injectorOnTest_ite_answer (settled_injectorOnTest (advanceTo_injectorOnTest _ h)) h

theorem judgeDemand_keepsTest (body : List Byte) : (judgeDemand body).KeepsTest := by
  intro s h
  have posted (k : Stage) : Unwatched s (seqReact (postDemand k s)) :=
    (Unwatched.of_addsDemand (postDemand_addsDemand k s)).trans (seqReact_unwatched _)
  unfold judgeDemand
  split
  · exact h
  · exact injectorOnTest_ite_answer (settled_injectorOnTest (seqEnd_injectorOnTest (h.congr (posted _)))) h

theorem judgeLearn_keepsTest (c : Circuit) : (judgeLearn c).KeepsTest := fun s h =>
  have learning : InjectorOnTest (onLamp c Lamp.learnStart s) := h.congr (.refl s)
  injectorOnTest_ite_answer h (settled_injectorOnTest (learning.congr (lampFaults_unwatched _ _ _ _ _)))

theorem onCable_unwatched (c : Circuit) (f : Cable → Cable) (s : State) : Unwatched s (onCable c f s) := .refl s

theorem judgeTestNow_keepsTest (c : Circuit) : (judgeTestNow c).KeepsTest := fun s h =>
  injectorOnTest_ite_answer h (settled_injectorOnTest (h.congr (onCable_unwatched c _ s)))

theorem judgeSuspend_keepsTest (c : Circuit) : (judgeSuspend c).KeepsTest := fun s h =>
  have stopped : InjectorOnTest (if testOn s c then abandon s else s) :=
    injectorOnTest_ite (abandon_injectorOnTest h) h
  injectorOnTest_ite_answer h
    (settled_injectorOnTest (stopped.congr ((onCable_unwatched c _ _).trans (post_unwatched _ _ _ _ _))))

theorem setOverdue_unwatched (c : Circuit) (s : State) : Unwatched s (setOverdue c s) :=
  (onCable_unwatched c _ s).trans (post_unwatched _ _ _ _ _)

theorem judgeUnsuspend_keepsTest (c : Circuit) : (judgeUnsuspend c).KeepsTest := fun s h =>
  have resumed (f : Cable → Cable) : InjectorOnTest (cableReport c (onCable c f s)) :=
    h.congr ((onCable_unwatched c f s).trans (post_unwatched _ _ _ _ _))
  injectorOnTest_ite_answer
    (settled_injectorOnTest (injectorOnTest_ite ((resumed _).congr (setOverdue_unwatched c _)) (resumed _))) h

theorem clearLatches_unwatched (d : Detector) (s : State) : Unwatched s (clearLatches d s) := .ite (.refl s) (.refl s)

theorem judgeDetectorRead_unwatched (body : List Byte) (s : State) : Unwatched s (judgeDetectorRead body s).2 := by
  unfold judgeDetectorRead
  split
  · dsimp only
    exact .forEach clearLatches_unwatched s
  · split
    · exact clearLatches_unwatched _ s
    · exact .refl s

theorem judgeWrite_unwatched (body : List Byte) (s : State) : Unwatched s (judgeWrite body s).2 :=
  unwatched_ite_answer (.refl s) (.refl s)

theorem takeFaultClear_injectorOnTest (l : List FEntry) (h : InjectorOnTest s) :
    InjectorOnTest (takeFaultClear l s) := by
  have cleared : InjectorOnTest ((setList l s).onFlt fun f => { f with overflow := false }) := h.congr (.refl s)
  exact settle_injectorOnTest (injectorOnTest_ite (autoRestart_injectorOnTest cleared) cleared)

theorem judgeClearOne_keepsTest (body : List Byte) : (judgeClearOne body).KeepsTest := by
  intro s h
  unfold judgeClearOne
  split
  · exact h
  · split
    · exact h
    · split
      · exact h
      · exact injectorOnTest_ite_answer (takeFaultClear_injectorOnTest _ h) h

theorem judgeClearAll_keepsTest (body : List Byte) : (judgeClearAll body).KeepsTest := fun _ h =>
  injectorOnTest_ite_answer (takeFaultClear_injectorOnTest _ h) h

theorem judgeReportControl_unwatched (body : List Byte) (s : State) : Unwatched s (judgeReportControl body s).2 :=
  unwatched_ite_answer (.refl s) (.refl s)

theorem judgeLinkStatus_unwatched (body : List Byte) (s : State) : Unwatched s (judgeLinkStatus body s).2 :=
  unwatched_ite_answer (.refl s) (.refl s)

theorem bypassOn_unwatched (v : Nat) (s : State) : Unwatched s (bypassOn v s) := by
  obtain ⟨d, void, -, heq⟩ := bypassOn_eq v s
  rw [heq]
  exact .refl s

theorem judgeMeasureOn_keepsTest (body : List Byte) : (judgeMeasureOn body).KeepsTest := fun s h =>
  injectorOnTest_ite_answer
    (injectorOnTest_ite_answer h (settled_injectorOnTest (h.congr (bypassOn_unwatched _ s)))) h

theorem judgeMeasureOff_keepsTest : Judge.KeepsTest judgeMeasureOff := fun s h =>
  have off : InjectorOnTest (bypassOff s) := h.congr (.refl s)
  injectorOnTest_ite_answer (settled_injectorOnTest off) h

/-! ### The line -/

theorem offer_unwatched (f : Frame) (s : State) : Unwatched s (offer f s) := .ite (.refl s) (.refl s)

theorem frameByte_unwatched (b : Byte) (s : State) : Unwatched s (frameByte b s) := by
  unfold frameByte
  simp only
  split
  · exact .refl s
  · exact .ite (.refl s) (.refl s)
  · exact .refl s
  · refine .ite (.ite ?_ (.refl s)) (.refl s)
    split
    · exact offer_unwatched _ (s.onLnk _)
    · exact .refl s

theorem rxChar_unwatched (c : RxChar) (s : State) : Unwatched s (rxChar c s) := by
  have heard : Unwatched s (s.onLnk fun l => { l with idle := 0 }) := .refl s
  cases c with
  | framingError => exact .refl s
  | byte b =>
    exact heard.trans <| .ite (.ite (.refl _) (.refl _)) <| .ite (.refl _) <| .ite
      (.ite (frameByte_unwatched _ _) (.ite (frameByte_unwatched _ _) (.refl _)))
      (.ite (.refl _) (frameByte_unwatched _ _))

/-! ### Commands -/

/-- The state a command answers has the test in flight on an OPEN relay. -/
def KeepsTest (s : State) (o : Host.Outcome State Fault Refusal) : Prop :=
  InjectorOnTest s → ∀ t, o = .next t → InjectorOnTest t

theorem keepsTest_next (h : InjectorOnTest s → InjectorOnTest t) : KeepsTest s (.next t) := by
  rintro hs _ ⟨⟩
  exact h hs

theorem keepsTest_ite {p : Prop} [Decidable p] {x y : Host.Outcome State Fault Refusal} (hx : KeepsTest s x)
    (hy : KeepsTest s y) : KeepsTest s (if p then x else y) := by
  split <;> assumption

/-- A command that acts where its condition holds, and changes nothing where it does not (log 1). -/
theorem keepsTest_when {p : Prop} [Decidable p] (h : InjectorOnTest s → InjectorOnTest t) :
    KeepsTest s (if p then .next t else .next s) :=
  keepsTest_ite (keepsTest_next h) (keepsTest_next id)

/-- A command that moves nothing R148 and R159 look at. -/
theorem keepsTest_unwatched (h : Unwatched s t) : KeepsTest s (.next t) := keepsTest_next fun hs => hs.congr h

theorem keepsTest_unwatched_when {p : Prop} [Decidable p] (h : Unwatched s t) :
    KeepsTest s (if p then .next t else .next s) := keepsTest_when fun hs => hs.congr h

theorem serve_keepsTest (kind tag : Byte) (body : List Byte) (row fits : Bool) {judge : Judge}
    (hj : judge.KeepsTest) (s : State) : KeepsTest s (serve kind tag body row fits judge s) := by
  refine keepsTest_when fun h => ?_
  have taken : InjectorOnTest (takeRequest s) := h.congr (.refl s)
  exact (injectorOnTest_ite_answer (hj (takeRequest s) taken) taken).congr (.refl _)

theorem serve_keepsTest_of_unwatched (kind tag : Byte) (body : List Byte) (row fits : Bool) {judge : Judge}
    (hj : ∀ s, Unwatched s (judge s).2) (s : State) : KeepsTest s (serve kind tag body row fits judge s) :=
  serve_keepsTest kind tag body row fits (Judge.keepsTest_of_unwatched hj) s

theorem execClockSecond_keepsTest (s : State) : KeepsTest s (execClockSecond s) := by
  unfold execClockSecond
  split
  · exact keepsTest_next id
  · exact keepsTest_unwatched_when (.ite (evaluated_unwatched _ s) (.refl s))

theorem execTimetableEntryDue_keepsTest (s : State) : KeepsTest s (execTimetableEntryDue s) := by
  unfold execTimetableEntryDue
  split
  · exact keepsTest_when fun h => conclude_injectorOnTest (reachEntry_injectorOnTest _ h)
  · exact keepsTest_next id

theorem execRedProofTimeout_keepsTest (s : State) : KeepsTest s (execRedProofTimeout s) := by
  have raised (e : TtEntry) : Unwatched s (raiseTimeout e s) := by
    unfold raiseTimeout
    split <;> exact .refl s
  unfold execRedProofTimeout
  split
  · exact keepsTest_when fun h => conclude_injectorOnTest (h.congr (raised _))
  · exact keepsTest_next id

theorem execConversionComplete_keepsTest (input : Int) (s : State) :
    KeepsTest s (execConversionComplete input s) := by
  unfold execConversionComplete
  split
  · exact keepsTest_next id
  · exact keepsTest_when fun h => (endWindow_injectorOnTest _ input h).congr (.refl _)

/-- The test found at a settle wait is the test in flight. -/
theorem settled_eq_some {step : TestStep} {w : Test} (h : settled step s = some w) :
    s.cbl.test = some w ∧ w.step = step ∧ timerDue w.settle = true := by
  obtain ⟨htest, hdue⟩ := Option.filter_eq_some_iff.mp h
  simp only [Bool.and_eq_true, decide_eq_true_eq] at hdue
  exact ⟨htest, hdue⟩

theorem nextStep_injectorOnTest {w : Test} (hw : s.cbl.test = some w) (step : TestStep) (h : InjectorOnTest s) :
    InjectorOnTest (nextStep w step s) :=
  h.goesOn hw (f := fun x => { x with test := some { w with step := step, placed := false, settle := none } })
    (x := { w with step := step, placed := false, settle := none }) rfl rfl fun _ _ hc => .inl hc

theorem execInjectorLoadSettle_keepsTest (s : State) : KeepsTest s (execInjectorLoadSettle s) := by
  unfold execInjectorLoadSettle
  split
  next w hw =>
    exact keepsTest_next fun h => conclude_injectorOnTest (nextStep_injectorOnTest (settled_eq_some hw).1 _ h)
  next => exact keepsTest_next id

theorem execInjectorTestSettle_keepsTest (s : State) : KeepsTest s (execInjectorTestSettle s) := by
  unfold execInjectorTestSettle
  split
  next w hw =>
    exact keepsTest_next fun h => conclude_injectorOnTest (nextStep_injectorOnTest (settled_eq_some hw).1 _ h)
  next => exact keepsTest_next id

/-- R148: an injector that is FREE is connected to no circuit. -/
theorem injectorFree_injectorOnTest (c : Circuit) (afterTest : Bool) (s : State) :
    InjectorOnTest (injectorFree c afterTest s) := by
  have free {t : State} (ht : t.cbl.pos = .free) : InjectorConnected t := by simp [InjectorConnected, ht]
  refine oswAfter_injectorOnTest (free ?_)
  split <;> rfl

theorem execInjectorClear_keepsTest (s : State) : KeepsTest s (execInjectorClear s) := by
  unfold execInjectorClear
  split
  · exact keepsTest_next fun _ => conclude_injectorOnTest (injectorFree_injectorOnTest _ _ s)
  · exact keepsTest_next id

theorem execInjectorStuck_keepsTest (s : State) : KeepsTest s (execInjectorStuck s) := by
  unfold execInjectorStuck
  split
  · exact keepsTest_when fun h => conclude_injectorOnTest (h.congr (.refl s))
  · exact keepsTest_next id

theorem execChatterIntervalEnd_keepsTest (s : State) : KeepsTest s (execChatterIntervalEnd s) := by
  refine keepsTest_when fun h => ?_
  have begun : InjectorOnTest (nextInterval s) :=
    h.congr (.of_eq (State.onDet_cbl s _) (State.onDet_osw s _) (State.onDet_seq s _))
  have judged : InjectorOnTest (forEach intervalEnd (nextInterval s)) :=
    forEach_keeps (fun d _ => intervalEnd_injectorOnTest d) begun
  exact detDone_injectorOnTest judged

/-- A change of the relay sections that keeps each relay's state and entering. -/
theorem InjectorOnTest.onOsw (h : InjectorOnTest s) {f : Osw → Osw}
    (hf : ∀ c, ((f s.osw).relay.get c).coil.state = (relayAt s c).coil.state ∧
      ((f s.osw).relay.get c).entering = (relayAt s c).entering) : InjectorOnTest (s.onOsw f) := by
  refine ⟨fun w hw => ?_, h.2⟩
  obtain ⟨hopen, henter, hset⟩ := h.1 w hw
  obtain ⟨hstate, hentering⟩ := hf w.circuit
  exact ⟨hstate.trans hopen, hentering.trans henter, hset⟩

/-- R87: a raw level moves the debounce alone. -/
theorem Coil.input_state (closed : Bool) (k : Coil) : (k.input closed).state = k.state := by
  unfold Coil.input
  split <;> rfl

theorem execRelayFeedbackChange_keepsTest (input : Contact) (closed : Bool) (s : State) :
    KeepsTest s (execRelayFeedbackChange input closed s) := by
  cases input with
  | relay c =>
    refine keepsTest_next fun h => h.onOsw fun d => ?_
    rw [Tab.get_modify]
    split
    · exact ⟨Coil.input_state closed _, rfl⟩
    · exact ⟨rfl, rfl⟩
  | contactor => exact keepsTest_unwatched (.refl s)

/-- R89: a relay's transition may take the test's circuit from OPEN, and OSW's judgement ends in CBL's watch. -/
theorem relayTo_keepsTest (c : Circuit) (r : Coil × CoilFault) (h : InjectorOnTest s) :
    InjectorOnTest (oswDone (relayTo c r s)) := by
  refine oswDone_injectorOnTest (InjectorConnected.congr (s := s) h.2 ?_)
  rw [relayTo_eq]
  rfl

theorem contactorTo_keepsTest (r : Coil × CoilFault) (h : InjectorOnTest s) :
    InjectorOnTest (oswDone (contactorTo r s)) :=
  oswDone_injectorOnTest (h.congr (contactorTo_unwatched r s)).2

/-- R148, R159: the test in flight starts on an eligible circuit and goes on there, and whatever takes its relay from
OPEN, makes it enter or lists it ends in CBL's watch, which abandons the test. -/
theorem exec_keepsTest (i : Instr) (s : State) : KeepsTest s (exec i s) := by
  cases i with
  | partReset rate1 rate0 =>
    exact keepsTest_next fun _ => injectorOnTest_of_idle rfl (by simp [partReset])
  | junctionOpen tag body => exact serve_keepsTest _ _ _ _ _ judgeOpen_keepsTest s
  | junctionWrite tag body => exact serve_keepsTest_of_unwatched _ _ _ _ _ (judgeWrite_unwatched body) s
  | junctionAccept tag body => exact serve_keepsTest _ _ _ _ _ judgeAccept_keepsTest s
  | junctionRead tag body => exact serve_keepsTest_of_unwatched _ _ _ _ _ Unwatched.refl s
  | planOpen tag body =>
    exact serve_keepsTest_of_unwatched _ _ _ _ _ (withSlot_unwatched body judgePlanOpen_unwatched) s
  | planWriteHeader tag body =>
    exact serve_keepsTest_of_unwatched _ _ _ _ _
      (withSlot_unwatched body fun p => whileEditing_unwatched p (checkedPlan_unwatched p _ _)) s
  | planWriteSequence tag body =>
    exact serve_keepsTest_of_unwatched _ _ _ _ _
      (withSlot_unwatched body fun p => whileEditing_unwatched p (checkedPlan_unwatched p _ _)) s
  | planWriteEntryTiming tag body =>
    exact serve_keepsTest_of_unwatched _ _ _ _ _
      (withSlot_unwatched body fun p => whileEditing_unwatched p (writeTimings_unwatched body p)) s
  | planClose tag body =>
    exact serve_keepsTest_of_unwatched _ _ _ _ _
      (withSlot_unwatched body fun p => whileEditing_unwatched p (judgePlanClose_unwatched p)) s
  | planRead tag body =>
    exact serve_keepsTest_of_unwatched _ _ _ _ _ (withSlot_unwatched body fun _ => Unwatched.refl) s
  | planSelect tag body => exact serve_keepsTest_of_unwatched _ _ _ _ _ (judgePlanSelect_unwatched body) s
  | scheduleWrite tag body => exact serve_keepsTest_of_unwatched _ _ _ _ _ (judgeScheduleWrite_unwatched body) s
  | scheduleRead tag body => exact serve_keepsTest_of_unwatched _ _ _ _ _ Unwatched.refl s
  | clockSet tag body => exact serve_keepsTest_of_unwatched _ _ _ _ _ (judgeClockSet_unwatched body) s
  | clockRead tag body => exact serve_keepsTest_of_unwatched _ _ _ _ _ Unwatched.refl s
  | restart tag body => exact serve_keepsTest _ _ _ _ _ judgeRestart_keepsTest s
  | resume tag body => exact serve_keepsTest _ _ _ _ _ judgeResume_keepsTest s
  | goAllRed tag body => exact serve_keepsTest _ _ _ _ _ judgeAllRed_keepsTest s
  | goDark tag body => exact serve_keepsTest _ _ _ _ _ judgeDark_keepsTest s
  | hold tag body => exact serve_keepsTest _ _ _ _ _ judgeHold_keepsTest s
  | releaseHold tag body => exact serve_keepsTest _ _ _ _ _ judgeRelease_keepsTest s
  | advance tag body => exact serve_keepsTest _ _ _ _ _ (judgeAdvance_keepsTest body) s
  | demandInsert tag body => exact serve_keepsTest _ _ _ _ _ (judgeDemand_keepsTest body) s
  | statusRead tag body => exact serve_keepsTest_of_unwatched _ _ _ _ _ Unwatched.refl s
  | circuitRead tag body => exact serve_keepsTest_of_unwatched _ _ _ _ _ Unwatched.refl s
  | lampLearn tag body => exact serve_keepsTest _ _ _ _ _ (withFitted_keepsTest body judgeLearn_keepsTest) s
  | cableTestNow tag body => exact serve_keepsTest _ _ _ _ _ (withFitted_keepsTest body judgeTestNow_keepsTest) s
  | cableSuspend tag body => exact serve_keepsTest _ _ _ _ _ (withFitted_keepsTest body judgeSuspend_keepsTest) s
  | cableResume tag body => exact serve_keepsTest _ _ _ _ _ (withFitted_keepsTest body judgeUnsuspend_keepsTest) s
  | detectorRead tag body => exact serve_keepsTest_of_unwatched _ _ _ _ _ (judgeDetectorRead_unwatched body) s
  | faultListRead tag body => exact serve_keepsTest_of_unwatched _ _ _ _ _ Unwatched.refl s
  | faultClear tag body => exact serve_keepsTest _ _ _ _ _ (judgeClearOne_keepsTest body) s
  | faultClearAll tag body => exact serve_keepsTest _ _ _ _ _ (judgeClearAll_keepsTest body) s
  | measureSetOn tag body => exact serve_keepsTest _ _ _ _ _ (judgeMeasureOn_keepsTest body) s
  | measureSetOff tag body => exact serve_keepsTest _ _ _ _ _ judgeMeasureOff_keepsTest s
  | measureRead tag body => exact serve_keepsTest_of_unwatched _ _ _ _ _ Unwatched.refl s
  | reportControl tag body => exact serve_keepsTest_of_unwatched _ _ _ _ _ (judgeReportControl_unwatched body) s
  | linkStatusRead tag body => exact serve_keepsTest_of_unwatched _ _ _ _ _ (judgeLinkStatus_unwatched body) s
  | linkStatusReadAndZero tag body => exact serve_keepsTest_of_unwatched _ _ _ _ _ Unwatched.refl s
  | unknownRequest kind tag body => exact keepsTest_unwatched_when (.refl s)
  | frameReceived chars =>
    exact keepsTest_ite (keepsTest_next id)
      (keepsTest_unwatched ((Unwatched.foldl (fun t c => rxChar_unwatched c t) chars s).trans (.refl _)))
  | gapTimeout => exact keepsTest_unwatched_when (.refl s)
  | breakRecognised => exact keepsTest_ite (keepsTest_next id) (keepsTest_unwatched (.refl s))
  | linkReset => exact keepsTest_unwatched_when (.refl s)
  | lineReadyChange asserted => exact keepsTest_unwatched (.refl s)
  | frameSent => exact keepsTest_unwatched_when (.refl s)
  | clockSecond => exact execClockSecond_keepsTest s
  | minimumGreenExpiry => exact keepsTest_when fun h => conclude_injectorOnTest (minimumExpires_injectorOnTest h)
  | gapExpiry => exact keepsTest_when fun h => conclude_injectorOnTest (seqEnd_injectorOnTest h)
  | maximumGreenReached => exact keepsTest_when fun h => conclude_injectorOnTest (seqEnd_injectorOnTest h)
  | fixedDurationReached => exact keepsTest_when fun h => conclude_injectorOnTest (seqEnd_injectorOnTest h)
  | floorWaitReached => exact keepsTest_when fun h => conclude_injectorOnTest (terminate_injectorOnTest h)
  | commitLeadExpiry => exact keepsTest_when fun h => conclude_injectorOnTest (leadExpires_injectorOnTest h)
  | timetableEntryDue => exact execTimetableEntryDue_keepsTest s
  | redProofTimeout => exact execRedProofTimeout_keepsTest s
  | interstageEnd => exact keepsTest_when fun h => conclude_injectorOnTest (endInterstage_injectorOnTest h)
  | startUpAllRedExpiry => exact keepsTest_when fun h => conclude_injectorOnTest (startUpEnds_injectorOnTest h)
  | detectorInputChange d closed =>
    exact keepsTest_ite (keepsTest_next id) (keepsTest_next fun h => inputChange_injectorOnTest d closed h)
  | detectorActivation d => exact keepsTest_when fun h => activation_injectorOnTest d h
  | detectorRelease d => exact keepsTest_when fun h => release_injectorOnTest d h
  | detectorStuckOn d => exact keepsTest_when fun h => detDone_injectorOnTest (monitor_injectorOnTest d _ _ h)
  | detectorSilent d => exact keepsTest_when fun h => detDone_injectorOnTest (monitor_injectorOnTest d _ _ h)
  | chatterIntervalEnd => exact execChatterIntervalEnd_keepsTest s
  | relayFeedbackChange input closed => exact execRelayFeedbackChange_keepsTest input closed s
  | relayFeedbackAccepted c => exact keepsTest_when (relayTo_keepsTest c _)
  | relayTransitionTimeout c => exact keepsTest_when (relayTo_keepsTest c _)
  | contactorFeedbackAccepted => exact keepsTest_when (contactorTo_keepsTest _)
  | contactorTransitionTimeout => exact keepsTest_when (contactorTo_keepsTest _)
  | deadTimeElapsed c => exact keepsTest_when fun h => oswDone_injectorOnTest h.2
  | signalsOffInputChange asserted => exact keepsTest_ite (keepsTest_next id) (keepsTest_unwatched (.refl s))
  | signalsOffAsserted => exact keepsTest_when fun h => conclude_injectorOnTest (h.congr (.refl s))
  | signalsOffReleased => exact keepsTest_when fun h => conclude_injectorOnTest (h.congr (.refl s))
  | diagnosticDue =>
    exact keepsTest_ite (keepsTest_next fun h => conclude_injectorOnTest (h.congr (.refl s)))
      (keepsTest_when conclude_injectorOnTest)
  | conversionComplete input => exact execConversionComplete_keepsTest input s
  | lampSettleTimeElapsed c => exact keepsTest_when conclude_injectorOnTest
  | offCheckEligibilityTime c => exact keepsTest_when conclude_injectorOnTest
  | cableEligibilityTime c => exact keepsTest_when conclude_injectorOnTest
  | cablePeriodElapsed c => exact keepsTest_when conclude_injectorOnTest
  | injectorLoadSettle => exact execInjectorLoadSettle_keepsTest s
  | injectorTestSettle => exact execInjectorTestSettle_keepsTest s
  | injectorClear => exact execInjectorClear_keepsTest s
  | injectorStuck => exact execInjectorStuck_keepsTest s
  | testOverdue c => exact keepsTest_unwatched_when ((setOverdue_unwatched c s).trans (.refl _))
  | noise b => exact keepsTest_unwatched_when (rxChar_unwatched _ s)

/-! ### A step on an empty queue -/

/-- A millisecond moves no relay's state, no connection and no circuit of a test. -/
theorem tick_injectorOnTest (h : InjectorOnTest s) : InjectorOnTest (tick s) := by
  obtain ⟨hstands, hon⟩ := h
  refine ⟨fun w hw => ?_, fun c m hc => ?_⟩
  · obtain ⟨v, hv, rfl⟩ := Option.map_eq_some_iff.mp hw
    obtain ⟨hopen, henter, hset⟩ := hstands v hv
    rw [relayState, relayAt_tick]
    exact ⟨hopen, henter, hset⟩
  · obtain ⟨v, hv, hcircuit⟩ := hon c m hc
    exact ⟨_, Option.map_eq_some_iff.mpr ⟨v, hv, rfl⟩, hcircuit⟩

theorem idle_injectorOnTest (h : InjectorOnTest s) : InjectorOnTest (idle s) :=
  tick_injectorOnTest (injectorOnTest_ite (oswDone_injectorOnTest (s := s.onOsw _) h.2) h)

end Sys2Proof.Machine

namespace Sys2Proof.Proofs

open Sys2Proof Sys2Proof.Machine

/-- Settles O9: `exec_keepsTest`, command by command, and `idle_injectorOnTest` for a step on an empty queue; the
circuit the injector is ON is then that of the test in flight, which stands on an OPEN relay. -/
theorem stepKeepsInjectorOnOpenRelay : Obligations.StepKeepsInjectorOnOpenRelay := by
  unfold Obligations.StepKeepsInjectorOnOpenRelay
  intro s t h hstep
  have kept : InjectorOnTest t := by
    unfold step at hstep
    split at hstep
    next => exact Host.Outcome.next.inj hstep ▸ idle_injectorOnTest h
    next i rest _ =>
      have waiting : InjectorOnTest { s with pending := rest } := h.congr (.refl s)
      exact exec_keepsTest i { s with pending := rest } waiting t hstep
  refine ⟨kept, fun c m hc => ?_⟩
  obtain ⟨w, hw, hcircuit⟩ := kept.2 c m hc
  exact hcircuit ▸ (kept.1 w hw).1

end Sys2Proof.Proofs
end

section
/-! PROOF. CBL's test and request through a command's end (R111, R150 to R153): what the other owners and the grant
leave of them, which circuit a test starts on, and what CBL places. -/

namespace Sys2Proof.Machine

variable {s t u : State} {w : Test} {c d : Circuit}

/-! ### What the other owners and the grant leave of CBL's request (R111, R112) -/

/-- Measurements are placed and granted, and of CBL's at most the grant is made. -/
structure KeepsCableRequest (s t : State) : Prop where
  places : Places s t
  test : t.cbl.test = s.cbl.test
  slot : s.mea.cbl.Granted t.mea.cbl

theorem Places.cbl_eq (h : Places s t) : t.cbl = { s.cbl with test := t.cbl.test } := by
  unfold Places at h
  rw [h]

namespace KeepsCableRequest

theorem refl (s : State) : KeepsCableRequest s s := ⟨.refl s, rfl, .refl _⟩

theorem trans (h1 : KeepsCableRequest s t) (h2 : KeepsCableRequest t u) : KeepsCableRequest s u :=
  ⟨h1.places.trans h2.places, h2.test.trans h1.test, h1.slot.trans h2.slot⟩

theorem of_eq (h : Places s t) (htest : t.cbl.test = s.cbl.test) (hslot : t.mea.cbl = s.mea.cbl) :
    KeepsCableRequest s t := ⟨h, htest, .inl hslot⟩

theorem ite {p : Prop} [Decidable p] (ht : KeepsCableRequest s t) (hu : KeepsCableRequest s u) :
    KeepsCableRequest s (if p then t else u) := by
  split <;> assumption

theorem cbl (h : KeepsCableRequest s t) : t.cbl = s.cbl := by rw [h.places.cbl_eq, h.test]

theorem not_empty (h : KeepsCableRequest s t) (hs : s.mea.cbl ≠ .empty) : t.mea.cbl ≠ .empty := by
  rcases h.slot with ht | ⟨q, -, ht⟩
  · rwa [ht]
  · simp [ht]

end KeepsCableRequest

theorem place_keepsCableRequest {i : MSlot} (hi : i ≠ .cbl) (r : Req) (s : State) :
    KeepsCableRequest s (place i r s) := by
  have hplaces := place_places i r s
  cases i with
  | cbl => exact absurd rfl hi
  | _ => exact .of_eq hplaces (place_unwatched _ _ s).1 (by unfold place; split <;> rfl)

theorem placeProof_keepsCableRequest (s : State) : KeepsCableRequest s (placeProof s) := by
  obtain ⟨x, heq⟩ := placeProof_eq s
  rw [heq]
  exact .of_eq rfl rfl rfl

theorem placeRoutine_keepsCableRequest (s : State) : KeepsCableRequest s (placeRoutine s) := by
  have evaluation (e : Circuit) : KeepsCableRequest s (placeEvaluation e s) :=
    .trans (t := s.onLmp fun x => { x with routinePtr := some e, evals := min (x.evals + 1) 8 })
      (.of_eq rfl rfl rfl) (place_keepsCableRequest (by decide) _ _)
  have offCheck (e : Circuit) : KeepsCableRequest s (placeOffCheck e s) :=
    .trans (t := s.onLmp fun x => { x with offPtr := some e, evals := 0 })
      (.of_eq rfl rfl rfl) (place_keepsCableRequest (by decide) _ _)
  unfold placeRoutine
  refine .ite (.refl s) ?_
  simp only
  split
  · exact .ite (offCheck _) (evaluation _)
  · exact evaluation _
  · exact offCheck _
  · exact .refl s

theorem placeDiag_keepsCableRequest (s : State) : KeepsCableRequest s (placeDiag s) := by
  have due (f : Mea → Mea) (r : Req) (hf : (f s.mea).cbl = s.mea.cbl) :
      KeepsCableRequest s (place .diag r (s.onMea f)) :=
    .trans (t := s.onMea f) (.of_eq rfl rfl hf) (place_keepsCableRequest (by decide) _ _)
  exact .ite (.refl s) (.ite (due _ _ rfl) (.ite (due _ _ rfl) (.ite (due _ _ rfl) (.refl s))))

theorem grant_keepsCableRequest (n : Nat) (s : State) : KeepsCableRequest s (grant n s) := by
  refine ⟨grant_places n s, (grant_unwatched n s).1, ?_⟩
  unfold grant
  split
  · exact .refl _
  · split
    · exact .refl _
    next i _ =>
      split
      · exact .refl _
      next q hq =>
        have hslot : s.mea.slot i = .waiting q := SlotContent.waiting?_eq_some_iff.mp hq
        cases i with
        | cbl => exact .inr ⟨q, hslot, rfl⟩
        | _ => exact .refl _

/-! ### The circuit a test starts on (R147, R150, R151) -/

/-- R150, R151: which circuit is next is no matter of the measurements placed. -/
theorem Places.nextTest_eq (h : Places s t) : nextTest t = nextTest s := by
  have hcbl := h.cbl_eq
  have hosw := h.osw_eq
  obtain ⟨hjds, hseq, -⟩ := h.frame
  have hcable (e : Circuit) : cableAt t e = cableAt s e := by rw [cableAt, hcbl, cableAt]
  have hpos : t.cbl.pos = s.cbl.pos := by rw [hcbl]
  have helig : testEligible t = testEligible s := by
    funext e
    simp only [testEligible, relayState, relayAt, hcable, hjds, hseq, hosw, hpos]
    rfl
  have hdue : dueByPeriod t = dueByPeriod s := by
    funext e
    simp only [dueByPeriod, hcable, hjds]
  have hage (l : List Circuit) : oldest t l = oldest s l := by
    induction l with
    | nil => rfl
    | cons e l ih =>
      simp only [oldest, ih, testAge, hcable]
      rfl
  simp only [nextTest, helig, hdue, hage, cableState, hcable, hjds]
  rfl

/-- R147: an eligible circuit is UNTESTED where it has no completed test. -/
theorem untested_iff_of_eligible (h : testEligible s c = true) :
    cableState s c = .untested ↔ (s.cbl.cable.get c).lastTest = none := by
  obtain ⟨hfitted, hsuspended, -⟩ := testEligible_iff.mp h
  rw [cableState, if_pos hfitted, Cable.state, cableAt]
  simp only [hsuspended, Bool.false_eq_true, if_false]
  by_cases hnone : (s.cbl.cable.get c).lastTest = none
  · simp [hnone]
  · simp only [hnone, if_false, iff_false]
    split
    · simp
    · split <;> simp

theorem dueByPeriod_iff : dueByPeriod s c = true ↔
    ∃ x, (s.cbl.cable.get c).lastTest = some x ∧ (s.jds.circuit.get c).testPeriod * 60000 ≤ x.elapsed := by
  simp only [dueByPeriod, cableAt, minutes, Option.any_eq_true]
  exact exists_congr fun _ => and_congr_right fun _ => decide_eq_true_iff

theorem testAge_of_last {x : Stamp} (h : (s.cbl.cable.get c).lastTest = some x) : testAge s c = x.elapsed := by
  rw [testAge, cableAt, h]
  rfl

/-- R151: the oldest last test, the lowest circuit of equals. -/
theorem oldest_eq_some {l : List Circuit} (hl : l.Pairwise (· < ·)) (hmem : d ∈ l)
    (hold : ∀ e ∈ l, testAge s e < testAge s d ∨ (testAge s e = testAge s d ∧ d ≤ e)) : oldest s l = some d := by
  induction l with
  | nil => simp at hmem
  | cons c l ih =>
    obtain ⟨hc, hl⟩ := List.pairwise_cons.mp hl
    have hrest : ∀ e ∈ l, testAge s e < testAge s d ∨ (testAge s e = testAge s d ∧ d ≤ e) :=
      fun e he => hold e (List.mem_cons_of_mem c he)
    rcases List.mem_cons.mp hmem with rfl | hd
    · unfold oldest
      split
      · rfl
      next e he =>
        have hle : testAge s e ≤ testAge s d := by
          rcases hrest e (oldest_mem he) with h | ⟨h, -⟩ <;> omega
        exact if_pos hle
    · have hlt : testAge s c < testAge s d := by
        rcases hold c List.mem_cons_self with h | ⟨-, h⟩
        · exact h
        · exact absurd (hc d hd) (not_lt.mpr h)
      unfold oldest
      rw [ih hl hd hrest]
      exact if_neg (not_le.mpr hlt)

/-- A search among the eligible circuits that satisfy `p`. -/
theorem eligible_find? {p : Circuit → Bool} (hd : testEligible s d = true) (hp : p d = true)
    (hlt : ∀ e, e < d → testEligible s e = true → p e = false) :
    ((allFin 48).filter (testEligible s)).find? p = some d := by
  rw [List.find?_filter]
  refine allFin_find?_eq_some (by simp [hd, hp]) fun e he => ?_
  simp only [decide_eq_true_eq] at he
  by_contra hlt'
  exact absurd (hlt e (not_le.mp hlt') he.1) (by simp [he.2])

theorem eligible_find?_none {p : Circuit → Bool} (h : ∀ e, testEligible s e = true → p e = false) :
    ((allFin 48).filter (testEligible s)).find? p = none := by
  simp only [List.find?_eq_none, List.mem_filter, mem_allFin, true_and]
  exact fun e he => by simp [h e he]

theorem nextTest_of_retest (hd : testEligible s d = true) (hretest : (s.cbl.cable.get d).retestDue = true)
    (hlt : ∀ e, e < d → testEligible s e = true → (s.cbl.cable.get e).retestDue = false) : nextTest s = some d := by
  simp only [nextTest, cableAt, eligible_find? (p := fun e => (s.cbl.cable.get e).retestDue) hd hretest hlt]

theorem nextTest_of_untested (hd : testEligible s d = true)
    (hretest : ∀ e, testEligible s e = true → (s.cbl.cable.get e).retestDue = false)
    (hnone : (s.cbl.cable.get d).lastTest = none)
    (hlt : ∀ e, e < d → testEligible s e = true → (s.cbl.cable.get e).lastTest ≠ none) : nextTest s = some d := by
  simp only [nextTest, cableAt, eligible_find?_none (p := fun e => (s.cbl.cable.get e).retestDue) hretest]
  rw [eligible_find? (p := fun e => decide (cableState s e = .untested)) hd]
  · simpa using (untested_iff_of_eligible hd).mpr hnone
  · exact fun e he helig => by simpa using mt (untested_iff_of_eligible helig).mp (hlt e he helig)

theorem nextTest_of_period (hd : testEligible s d = true)
    (hnone : ∀ e, testEligible s e = true →
      (s.cbl.cable.get e).retestDue = false ∧ (s.cbl.cable.get e).lastTest ≠ none)
    (hdue : dueByPeriod s d = true)
    (hold : ∀ e, testEligible s e = true → dueByPeriod s e = true →
      testAge s e < testAge s d ∨ (testAge s e = testAge s d ∧ d ≤ e)) : nextTest s = some d := by
  simp only [nextTest, cableAt,
    eligible_find?_none (p := fun e => (s.cbl.cable.get e).retestDue) fun e he => (hnone e he).1]
  rw [eligible_find?_none (p := fun e => decide (cableState s e = .untested)) fun e he => by
    simpa using mt (untested_iff_of_eligible he).mp (hnone e he).2]
  refine oldest_eq_some (((allFin_sorted 48).filter _).filter _) (by simp [hd, hdue]) fun e he => ?_
  simp only [List.mem_filter, mem_allFin, true_and] at he
  exact hold e he.1 he.2

/-! ### What CBL places (R151, R152, R153; log 29) -/

/-- A test whose step asks for nothing, that has asked, or that finds CBL's slot taken. -/
def Test.Waits (w : Test) (s : State) : Prop := w.channel = none ∨ w.placed = true ∨ s.mea.cbl ≠ .empty

theorem placeCbl_of_waits (hw : s.cbl.test = some w) (h : w.Waits s) : placeCbl s = s := by
  simp only [placeCbl, hw]
  split
  · rfl
  next ch hch =>
    refine if_pos ?_
    simpa [Test.Waits, hch] using h

/-- The state in which CBL has asked for the channel of its test's step. -/
def asked (w : Test) (ch : Channel) (s : State) : State := { s with
  cbl := { s.cbl with test := some { w with placed := true } }
  mea := { s.mea with cbl := .waiting ⟨ch, countOf s w.circuit, false⟩ } }

theorem placeCbl_of_asks {ch : Channel} (hw : s.cbl.test = some w) (hch : w.channel = some ch)
    (hplaced : w.placed = false) (hslot : s.mea.cbl = .empty) : placeCbl s = asked w ch s := by
  have hempty : (s.onCbl fun x => { x with test := some { w with placed := true } }).mea.slot .cbl = .empty := hslot
  simp only [placeCbl, hw, hch, hplaced, hslot, place, hempty]
  rfl

theorem ownerPlaces_cbl_of_test (hw : s.cbl.test = some w) : ownerPlaces .cbl s = placeCbl s := by
  show placeCbl (startTest s) = placeCbl s
  rw [startTest_of_some hw]

theorem ownerPlaces_cbl_of_none (hnone : s.cbl.test = none) (hnext : nextTest s = none) : ownerPlaces .cbl s = s := by
  show placeCbl (startTest s) = s
  rw [startTest_of_none hnext]
  simp only [placeCbl, hnone]

/-- The state in which a test has started on the circuit. -/
def started (d : Circuit) (s : State) : State := s.onCbl fun x => { x with test := some { circuit := d } }

theorem ownerPlaces_cbl_of_next (hnone : s.cbl.test = none) (hnext : nextTest s = some d) :
    ownerPlaces .cbl s = placeCbl (started d s) := by
  show placeCbl (startTest s) = _
  rw [startTest_of_next hnone hnext]
  rfl

/-- R111, R112: CBL places once LMP has, and the engine grants after that. -/
theorem measures_around (n : Nat) (s : State) : ∃ v, KeepsCableRequest s v ∧
    KeepsCableRequest (ownerPlaces .cbl v) (measures n s) :=
  ⟨placeRoutine (placeProof s), (placeProof_keepsCableRequest s).trans (placeRoutine_keepsCableRequest _),
    (placeDiag_keepsCableRequest _).trans (grant_keepsCableRequest n _)⟩

theorem KeepsCableRequest.waits (h : KeepsCableRequest s t) (hw : w.Waits s) : w.Waits t := by
  rcases hw with hw | hw | hw
  · exact .inl hw
  · exact .inr (.inl hw)
  · exact .inr (.inr (h.not_empty hw))

/-- A test that waits is left as it is by every owner and by the grant. -/
theorem ownerPlaces_keepsCableRequest (i : MSlot) (hw : s.cbl.test = some w) (h : w.Waits s) :
    KeepsCableRequest s (ownerPlaces i s) := by
  cases i with
  | proof => exact placeProof_keepsCableRequest s
  | routine => exact placeRoutine_keepsCableRequest s
  | diag => exact placeDiag_keepsCableRequest s
  | cbl =>
    rw [ownerPlaces_cbl_of_test hw, placeCbl_of_waits hw h]
    exact .refl s

theorem measures_keepsCableRequest (n : Nat) (hw : s.cbl.test = some w) (h : w.Waits s) :
    KeepsCableRequest s (measures n s) := by
  obtain ⟨v, hbefore, hafter⟩ := measures_around n s
  exact (hbefore.trans (ownerPlaces_keepsCableRequest .cbl (hbefore.test.trans hw) (hbefore.waits h))).trans hafter

theorem measures_keepsCableRequest_of_none (n : Nat) (hnone : s.cbl.test = none) (hnext : nextTest s = none) :
    KeepsCableRequest s (measures n s) := by
  obtain ⟨v, hbefore, hafter⟩ := measures_around n s
  rw [ownerPlaces_cbl_of_none (hbefore.test.trans hnone) (hbefore.places.nextTest_eq.trans hnext)] at hafter
  exact hbefore.trans hafter

/-- R152, R153: the request of the step of `w` is placed, and perhaps granted already. -/
def Asks.Placed (w : Test) (ch : Channel) (s t : State) : Prop :=
  t.cbl.test = some { w with placed := true } ∧
    (t.mea.cbl = .waiting ⟨ch, countOf s w.circuit, false⟩ ∨ t.mea.cbl = .converting ⟨ch, countOf s w.circuit, false⟩)

theorem KeepsCableRequest.placed {ch : Channel} (h : KeepsCableRequest (asked w ch s) t) : Asks.Placed w ch s t :=
  ⟨h.test, SlotContent.Granted.of_waiting h.slot⟩

theorem Places.countOf_eq (h : Places s t) (c : Circuit) : countOf t c = countOf s c := by
  rw [countOf, relayAt, h.osw_eq]
  rfl

theorem measures_asks (n : Nat) {ch : Channel} (hw : s.cbl.test = some w) (hch : w.channel = some ch)
    (hplaced : w.placed = false) (hslot : s.mea.cbl = .empty) : Asks.Placed w ch s (measures n s) := by
  obtain ⟨v, hbefore, hafter⟩ := measures_around n s
  have hempty : v.mea.cbl = .empty := SlotContent.Granted.of_empty (hslot ▸ hbefore.slot)
  have hv := hbefore.test.trans hw
  rw [ownerPlaces_cbl_of_test hv, placeCbl_of_asks hv hch hplaced hempty] at hafter
  have hdone := hafter.placed
  rwa [Asks.Placed, hbefore.places.countOf_eq] at hdone

/-- R151, R152: a test starts; its open voltage is asked for where CBL's slot is EMPTY, and waits for it where not. -/
theorem measures_starts (n : Nat) (hnone : s.cbl.test = none) (hnext : nextTest s = some d) :
    (s.mea.cbl = .empty → Asks.Placed { circuit := d } (.voltage d) s (measures n s)) ∧
    (s.mea.cbl ≠ .empty → (measures n s).cbl.test = some { circuit := d }) := by
  obtain ⟨v, hbefore, hafter⟩ := measures_around n s
  rw [ownerPlaces_cbl_of_next (hbefore.test.trans hnone) (hbefore.places.nextTest_eq.trans hnext)] at hafter
  refine ⟨fun hslot => ?_, fun hslot => ?_⟩
  · have hempty : v.mea.cbl = .empty := SlotContent.Granted.of_empty (hslot ▸ hbefore.slot)
    rw [placeCbl_of_asks (s := started d v) (w := { circuit := d }) rfl rfl rfl hempty] at hafter
    have hdone := hafter.placed
    rwa [Asks.Placed, show countOf (started d v) d = countOf s d from hbefore.places.countOf_eq d] at hdone
  · rw [placeCbl_of_waits (s := started d v) (w := { circuit := d }) rfl (.inr (.inr (hbefore.not_empty hslot)))]
      at hafter
    exact hafter.test

/-- Whatever waits or is asked for, the test in flight goes on. -/
theorem ownerPlaces_goesOn (i : MSlot) (hw : s.cbl.test = some w) :
    ∃ b, (ownerPlaces i s).cbl.test = some { w with placed := b } := by
  cases i with
  | proof => exact ⟨w.placed, (placeProof_keepsCableRequest s).test.trans hw⟩
  | routine => exact ⟨w.placed, (placeRoutine_keepsCableRequest s).test.trans hw⟩
  | diag => exact ⟨w.placed, (placeDiag_keepsCableRequest s).test.trans hw⟩
  | cbl =>
    rw [ownerPlaces_cbl_of_test hw]
    by_cases h : w.Waits s
    · rw [placeCbl_of_waits hw h]
      exact ⟨w.placed, hw⟩
    · simp only [Test.Waits, not_or, Bool.not_eq_true, not_not] at h
      obtain ⟨hch, hplaced, hslot⟩ := h
      obtain ⟨ch, hch⟩ := Option.ne_none_iff_exists'.mp hch
      rw [placeCbl_of_asks hw hch hplaced hslot]
      exact ⟨true, rfl⟩

theorem measures_goesOn (n : Nat) (hw : s.cbl.test = some w) :
    ∃ b, (measures n s).cbl.test = some { w with placed := b } := by
  obtain ⟨v, hbefore, hafter⟩ := measures_around n s
  obtain ⟨b, hb⟩ := ownerPlaces_goesOn .cbl (hbefore.test.trans hw)
  exact ⟨b, hafter.test.trans hb⟩

theorem ownerPlaces_places (i : MSlot) (s : State) : Places s (ownerPlaces i s) := by
  cases i with
  | proof => exact placeProof_places s
  | routine => exact placeRoutine_places s
  | cbl => exact (startTest_places s).trans (placeCbl_places _)
  | diag => exact placeDiag_places s

theorem settle_of_empty (h : s.flt.inbox = []) : settle s = measures 0 s := by rw [settle, drain_of_empty _ _ h]

end Sys2Proof.Machine
end

section
/-! PROOF. How a cable test starts, goes on with its settle times and results, and is abandoned (R150 to R154, R159),
and `Obligations.CableTestsStartAndGoOn` from it. -/

namespace Sys2Proof.Machine

variable {s t u : State} {w : Test} {c d : Circuit} {v : Conv} {q : Req} {ch : Channel}

/-! ### A test's start (R150, R151) -/

/-- CBL's two commands, each where its condition holds. -/
theorem cableTimes_eq {i : Instr} (hfitted : s.jds.fitted c = true)
    (h : (i = .cableEligibilityTime c ∧ relayState s c = .open ∧
        ∀ x, (relayAt s c).coil.lastChange = some x → 500 ≤ x.elapsed) ∨
      (i = .cablePeriodElapsed c ∧ ∃ x, (s.cbl.cable.get c).lastTest = some x ∧
        (s.jds.circuit.get c).testPeriod * 60000 ≤ x.elapsed)) : exec i s = .next (conclude s) := by
  rcases h with ⟨rfl, hopen, hlong⟩ | ⟨rfl, hperiod⟩
  · exact if_pos (by simp only [hfitted, hopen, longSince_iff.mpr hlong, decide_true, Bool.and_self])
  · exact if_pos (by simp only [hfitted, dueByPeriod_iff.mpr hperiod, Bool.and_self])

/-- R151: the circuit a test starts on, by whichever of the three rules chooses it. -/
theorem nextTest_eq_some (hd : testEligible s d = true)
    (h : ((s.cbl.cable.get d).retestDue = true ∧
        (∀ e, e < d → testEligible s e = true → (s.cbl.cable.get e).retestDue = false)) ∨
      ((∀ e, testEligible s e = true → (s.cbl.cable.get e).retestDue = false) ∧
        (s.cbl.cable.get d).lastTest = none ∧
        (∀ e, e < d → testEligible s e = true → (s.cbl.cable.get e).lastTest ≠ none)) ∨
      ((∀ e, testEligible s e = true → (s.cbl.cable.get e).retestDue = false ∧ (s.cbl.cable.get e).lastTest ≠ none) ∧
        ∃ x, (s.cbl.cable.get d).lastTest = some x ∧ (s.jds.circuit.get d).testPeriod * 60000 ≤ x.elapsed ∧
          ∀ e y, testEligible s e = true → (s.cbl.cable.get e).lastTest = some y →
            (s.jds.circuit.get e).testPeriod * 60000 ≤ y.elapsed →
            y.elapsed < x.elapsed ∨ (y.elapsed = x.elapsed ∧ d ≤ e))) : nextTest s = some d := by
  rcases h with ⟨hretest, hlt⟩ | ⟨hretest, hnone, hlt⟩ | ⟨hnone, x, hx, hdue, hold⟩
  · exact nextTest_of_retest hd hretest hlt
  · exact nextTest_of_untested hd hretest hnone hlt
  · refine nextTest_of_period hd hnone (dueByPeriod_iff.mpr ⟨x, hx, hdue⟩) fun e he hedue => ?_
    obtain ⟨y, hy, hyear⟩ := dueByPeriod_iff.mp hedue
    rw [testAge_of_last hx, testAge_of_last hy]
    exact hold e y he hy hyear

/-! ### After a settle time (R152, R153) -/

theorem CircuitRec.loopOn_iff {r : CircuitRec} :
    r.loopOn = true ↔ r.loopCheck = .on ∨ (r.loopCheck = .byTechnology ∧ r.technology = .filament) := by
  unfold CircuitRec.loopOn
  split <;> simp [*]

theorem settled_of_due {step : TestStep} {x : Timer} (hw : s.cbl.test = some w) (hstep : w.step = step)
    (hsettle : w.settle = some x) (hdue : x.limit ≤ x.ms) : settled step s = some w := by
  simp only [settled, hw, Option.filter_some, hstep, timerDue_of_limit hsettle hdue, decide_true, Bool.and_self,
    if_true]

theorem injectorLoadSettle_eq (h : settled .loadSettle s = some w) :
    exec .injectorLoadSettle s = .next (conclude (nextStep w .loadedV s)) := by
  show execInjectorLoadSettle s = _
  simp only [execInjectorLoadSettle, h]

/-- R153: the loop is asked for with the loop check on, and the leak with it off. -/
theorem injectorTestSettle_eq (h : settled .testSettle s = some w) : exec .injectorTestSettle s =
    .next (conclude (nextStep w (if (circuitRec s w.circuit).loopOn then .loop else .leak) s)) := by
  show execInjectorTestSettle s = _
  simp only [execInjectorTestSettle, h]

/-- With no event waiting for FLT, the step that begins asks for its channel at the command's end. -/
theorem conclude_nextStep_asks (hinbox : s.flt.inbox = []) (hslot : s.mea.cbl = .empty) {step : TestStep}
    (hch : ({ w with step := step, placed := false, settle := none } : Test).channel = some ch) :
    (conclude (nextStep w step s)).cbl.test = some { w with step := step, placed := true, settle := none } ∧
    ((conclude (nextStep w step s)).mea.cbl = .waiting ⟨ch, countOf s w.circuit, false⟩ ∨
      (conclude (nextStep w step s)).mea.cbl = .converting ⟨ch, countOf s w.circuit, false⟩) ∧
    (conclude (nextStep w step s)).cbl.cable = s.cbl.cable ∧ (conclude (nextStep w step s)).cbl.pos = s.cbl.pos ∧
    (conclude (nextStep w step s)).jds = s.jds ∧ (conclude (nextStep w step s)).osw = s.osw ∧
    (conclude (nextStep w step s)).flt = s.flt := by
  have hplaces : Places (nextStep w step s) (settle (nextStep w step s)) := settle_places hinbox
  obtain ⟨hjds, -, -, -, hflt, -, -, hcable⟩ := hplaces.frame
  have hpos : (settle (nextStep w step s)).cbl.pos = s.cbl.pos := by
    rw [hplaces.cbl_eq]
    rfl
  obtain ⟨htest, hasked⟩ : Asks.Placed { w with step := step, placed := false, settle := none } ch (nextStep w step s)
      (settle (nextStep w step s)) := by
    rw [settle_of_empty (s := nextStep w step s) hinbox]
    exact measures_asks 0 rfl hch rfl hslot
  exact ⟨htest, hasked, hcable, hpos, hjds, hplaces.osw_eq, hflt⟩

/-! ### What follows a delivery (R111 to R113) -/

theorem afterDelivery_of_empty (v : Conv) (h : u.flt.inbox = []) :
    afterDelivery v u = measures v.excess (grant v.excess (ownerPlaces v.slot u)) := by
  rw [afterDelivery, drain_of_empty _ _ h]

theorem afterDelivery_places (v : Conv) (h : u.flt.inbox = []) : Places u (afterDelivery v u) := by
  rw [afterDelivery_of_empty v h]
  exact (ownerPlaces_places v.slot u).trans ((grant_places _ _).trans (measures_places _ _))

theorem afterDelivery_keepsCableRequest (v : Conv) (h : u.flt.inbox = []) (hw : u.cbl.test = some w)
    (hwaits : w.Waits u) : KeepsCableRequest u (afterDelivery v u) := by
  rw [afterDelivery_of_empty v h]
  have hgrant := (ownerPlaces_keepsCableRequest v.slot hw hwaits).trans (grant_keepsCableRequest v.excess _)
  exact hgrant.trans (measures_keepsCableRequest _ (hgrant.test.trans hw) (hgrant.waits hwaits))

theorem afterDelivery_goesOn (v : Conv) (h : u.flt.inbox = []) (hw : u.cbl.test = some w) :
    ∃ b, (afterDelivery v u).cbl.test = some { w with placed := b } := by
  rw [afterDelivery_of_empty v h]
  obtain ⟨b, hb⟩ := ownerPlaces_goesOn v.slot hw
  obtain ⟨b', hb'⟩ := measures_goesOn v.excess ((grant_keepsCableRequest v.excess _).test.trans hb)
  exact ⟨b', hb'⟩

/-- R153: where the result was delivered from CBL's slot, the next step's request is placed at once. -/
theorem afterDelivery_asks (hv : v.slot = .cbl) (h : u.flt.inbox = []) (hw : u.cbl.test = some w)
    (hch : w.channel = some ch) (hplaced : w.placed = false) (hslot : u.mea.cbl = .empty) :
    Asks.Placed w ch u (afterDelivery v u) := by
  rw [afterDelivery_of_empty v h, hv, ownerPlaces_cbl_of_test hw, placeCbl_of_asks hw hch hplaced hslot]
  have hgrant := grant_keepsCableRequest v.excess (asked w ch u)
  exact (hgrant.trans (measures_keepsCableRequest _ hgrant.test (hgrant.waits (.inr (.inl rfl))))).placed

/-! ### A result of CBL's (R154) -/

theorem delivered_of_cable (hq : ∃ c, q.channel = .voltage c ∨ q.channel = .loop c ∨ q.channel = .leak c) (r : Nat) :
    delivered v q r s = takeCable ⟨q, r, uptimeBefore s v.excess⟩ (freed v s) := by
  obtain ⟨c, hc | hc | hc⟩ := hq <;> simp only [delivered, deliver, hc]

/-- R154: a result that no test awaits, or with another switch count, is discarded. -/
theorem takeCable_of_unawaited {x : Result}
    (h : ∀ w, s.cbl.test = some w → w.placed = false ∨ w.channel ≠ some x.req.channel ∨
      x.req.count ≠ countOf s w.circuit) : takeCable x s = s := by
  unfold takeCable
  split
  · rfl
  next w hw =>
    refine if_neg ?_
    rcases h w hw with h | h | h <;> simp [h]

theorem takeCable_of_awaited {x : Result} (hw : s.cbl.test = some w) (hplaced : w.placed = true)
    (hch : w.channel = some x.req.channel) (hcount : x.req.count = countOf s w.circuit) :
    takeCable x s = testResult w x.count s := by
  simp only [takeCable, hw, hplaced, hch, hcount, decide_true, Bool.and_self, if_true]

theorem Test.cable_of_channel (h : w.channel = some ch) : ∃ c, ch = .voltage c ∨ ch = .loop c ∨ ch = .leak c := by
  refine ⟨w.circuit, ?_⟩
  unfold Test.channel at h
  split at h <;> simp_all

theorem delivered_of_awaited (v : Conv) (hw : s.cbl.test = some w) (hplaced : w.placed = true)
    (hch : w.channel = some q.channel) (hcount : q.count = countOf s w.circuit) (r : Nat) :
    delivered v q r s = testResult w r (freed v s) := by
  rw [delivered_of_cable (Test.cable_of_channel hch)]
  exact takeCable_of_awaited (s := freed v s) hw hplaced hch hcount

/-- R152: the open voltage leads to the injection, or above the foreign limit to the loaded step. -/
theorem testResult_of_openV (h : w.step = .openV) (r : Nat) (s : State) : testResult w r s =
    if r ≤ s.jds.timing.foreignOpen then injection { w with vo := r } s else loadedStep { w with vo := r } s := by
  simp only [testResult, h]

theorem testResult_of_loadedV (h : w.step = .loadedV) (r : Nat) (s : State) :
    testResult w r s = injection { w with vl := some r } s := by
  simp only [testResult, h]

theorem testResult_of_loop (h : w.step = .loop) (r : Nat) (s : State) :
    testResult w r s = setTest { w with loop := some r, step := .leak, placed := false } s := by
  simp only [testResult, h]

/-- What every delivery of a cable result leaves, where its reader leaves it. -/
theorem afterDelivery_frame (v : Conv) (h : u.flt.inbox = []) :
    (finish (afterDelivery v u)).cbl.cable = u.cbl.cable ∧ (finish (afterDelivery v u)).jds = u.jds ∧
    (finish (afterDelivery v u)).osw = u.osw ∧ (finish (afterDelivery v u)).seq = u.seq ∧
    (finish (afterDelivery v u)).flt = u.flt := by
  have hplaces := afterDelivery_places v h
  obtain ⟨hjds, hseq, -, -, hflt, -, -, hcable⟩ := hplaces.frame
  exact ⟨hcable, hjds, hplaces.osw_eq, hseq, hflt⟩

theorem afterDelivery_pos (v : Conv) (h : u.flt.inbox = []) : (finish (afterDelivery v u)).cbl.pos = u.cbl.pos := by
  show (afterDelivery v u).cbl.pos = u.cbl.pos
  rw [(afterDelivery_places v h).cbl_eq]

/-- R152, R153: where the result connects the injector, the test stands at its settle time to the command's end. -/
theorem afterDelivery_connected (v : Conv) {x : Test} {m : InjMode}
    (h : u = setTest x (connect c m (freed v s))) (hinbox : s.flt.inbox = []) (hx : x.channel = none) :
    (finish (afterDelivery v u)).cbl.test = some x ∧ (finish (afterDelivery v u)).cbl.pos = .on c m := by
  subst h
  have hkeeps : KeepsCableRequest (setTest x (connect c m (freed v s))) (afterDelivery v _) :=
    afterDelivery_keepsCableRequest v hinbox rfl (.inl hx)
  exact ⟨hkeeps.test, congrArg Cbl.pos hkeeps.cbl⟩

end Sys2Proof.Machine

namespace Sys2Proof.Proofs

open Sys2Proof Sys2Proof.Machine

/-- Settles O56. The start is `nextTest_eq_some` with `measures_starts`, a settle time's end `conclude_nextStep_asks`, a
result `delivered_of_awaited` with what `afterDelivery` leaves of the test it has moved on. -/
theorem cableTestsStartAndGoOn : Obligations.CableTestsStartAndGoOn := by
  unfold Obligations.CableTestsStartAndGoOn
  refine ⟨fun c s => testEligible_iff, fun w s hw => ?abandons, ?starts, ?settles, ?results⟩
  case abandons =>
    obtain ⟨habandon, hstay⟩ := cblWatch_of_some hw
    refine ⟨fun hdrawn => ?_, hstay⟩
    rw [habandon hdrawn]
    exact (abandon_of_some hw).2.2
  case starts =>
    intro c d i s hfitted hinbox hnone hi hd hchoice
    have hplaces := settle_places hinbox
    obtain ⟨hjds, -, -, -, hflt, -, -, hcable⟩ := hplaces.frame
    have hpos : (settle s).cbl.pos = s.cbl.pos := by rw [hplaces.cbl_eq]
    obtain ⟨hasks, hwaits⟩ := measures_starts 0 hnone (nextTest_eq_some hd hchoice)
    rw [← settle_of_empty hinbox] at hasks hwaits
    by_cases hslot : s.mea.cbl = .empty
    · obtain ⟨htest, hasked⟩ := hasks hslot
      exact ⟨conclude s, _, cableTimes_eq hfitted hi, htest, rfl, fun _ => ⟨rfl, hasked⟩, fun h => absurd hslot h,
        hpos, hcable, hjds, hplaces.osw_eq, hflt⟩
    · exact ⟨conclude s, _, cableTimes_eq hfitted hi, hwaits hslot, rfl, fun h => absurd h hslot, fun _ => rfl,
        hpos, hcable, hjds, hplaces.osw_eq, hflt⟩
  case settles =>
    intro w x s hw hsettle hdue hinbox hslot r loops asks
    refine ⟨fun hstep => ?load, fun hstep hloops => ?loop, fun hstep hloops => ?leak⟩
    case load =>
      exact ⟨_, injectorLoadSettle_eq (settled_of_due hw hstep hsettle hdue),
        conclude_nextStep_asks hinbox hslot (step := .loadedV) rfl⟩
    case loop =>
      have hon : (circuitRec s w.circuit).loopOn = true := CircuitRec.loopOn_iff.mpr hloops
      have hexec := injectorTestSettle_eq (settled_of_due hw hstep hsettle hdue)
      rw [hon, if_pos rfl] at hexec
      exact ⟨_, hexec, conclude_nextStep_asks hinbox hslot (step := .loop) rfl⟩
    case leak =>
      have hoff : ¬(circuitRec s w.circuit).loopOn = true := mt CircuitRec.loopOn_iff.mp hloops
      have hexec := injectorTestSettle_eq (settled_of_due hw hstep hsettle hdue)
      rw [if_neg hoff] at hexec
      exact ⟨_, hexec, conclude_nextStep_asks hinbox hslot (step := .leak) rfl⟩
  case results =>
    intro v q input s hconv hdue hslot hq hinbox r kept
    refine ⟨fun hdiscard => ?discarded, fun w hw hplaced hcount => ?taken⟩
    case discarded =>
      have hdelivered : delivered v q r s = freed v s := by
        rw [delivered_of_cable hq]
        exact takeCable_of_unawaited (s := freed v s) hdiscard
      have hempty : (freed v s).flt.inbox = [] := hinbox
      refine ⟨_, conversionComplete_of_due input hconv hdue hslot, ?_⟩
      rw [hdelivered]
      exact ⟨afterDelivery_frame v hempty, afterDelivery_pos v hempty, fun w hw => afterDelivery_goesOn v hempty hw⟩
    case taken =>
      intro goes
      have moves (hch : w.channel = some q.channel) {x : Test} {m : InjMode} (hx : x.channel = none)
          (hmoved : testResult w r (freed v s) = setTest x (connect w.circuit m (freed v s))) : goes x m := by
        have hdelivered := (delivered_of_awaited v hw hplaced hch hcount r).trans hmoved
        refine ⟨_, conversionComplete_of_due input hconv hdue hslot, ?_, afterDelivery_connected v hdelivered hinbox hx⟩
        rw [hdelivered]
        exact afterDelivery_frame v hinbox
      refine ⟨fun hstep hq => ⟨fun hle => ?_, fun hlt => ?_⟩, fun hstep hq => ?_, fun hstep hq hv => ?loop⟩
      · exact moves (by rw [Test.channel, hstep, hq]) rfl ((testResult_of_openV hstep r _).trans (if_pos hle))
      · exact moves (by rw [Test.channel, hstep, hq]) rfl
          ((testResult_of_openV hstep r _).trans (if_neg (not_le.mpr hlt)))
      · exact moves (by rw [Test.channel, hstep, hq]) rfl (testResult_of_loadedV hstep r _)
      case loop =>
        have hdelivered : delivered v q r s = _ :=
          (delivered_of_awaited v hw hplaced (by rw [Test.channel, hstep, hq]) hcount r).trans
            (testResult_of_loop hstep r _)
        have hempty : (freed v s).mea.cbl = .empty := by
          rw [freed, hv]
          rfl
        refine ⟨_, conversionComplete_of_due input hconv hdue hslot, ?_⟩
        rw [hdelivered]
        exact ⟨afterDelivery_frame v hinbox, afterDelivery_pos v hinbox,
          afterDelivery_asks (u := setTest { w with loop := some r, step := .leak, placed := false } (freed v s))
            hv hinbox rfl rfl rfl hempty⟩

end Sys2Proof.Proofs
end

section
/-! PROOF. CBL's requests (R162 to R164): the flag each sets or clears, the abandonment a suspension brings, the
reports, and `Obligations.CableRequests` from them. -/

namespace Sys2Proof.Machine

variable {s t u : State} {w : Test} {c d : Circuit}

/-! ### CBL's reports (R147, R162, R207) -/

theorem CableState.code_eq_position (x : CableState) :
    x.code = position [.untested, .healthy, .suspect, .faulty, .suspended] x := by
  cases x <;> rfl

/-- R147: the fields of a CABLE-STATE report that shows this section in this state. -/
def cableFields (x : Cable) (y : CableState) : List Byte :=
  [position [.untested, .healthy, .suspect, .faulty, .suspended] y,
    packByte [x.openRun.confirmed, x.shortRun.confirmed, x.insulationRun.confirmed, x.foreignRun.confirmed],
    flagByte x.induced]

theorem cableReport_eq (c : Circuit) (s : State) : cableReport c s = { s with
    lnk := s.lnk.posted s.uptime [(.cableState, false, .circuit c, cableFields (cableAt s c) (cableState s c))] } := by
  rw [cableReport, CableState.code_eq_position]
  exact post_eq ..

/-- The section is reported as it stands once changed. -/
theorem cableReport_onCable (hfitted : s.jds.fitted c = true) (f : Cable → Cable) :
    cableReport c (onCable c f s) = { onCable c f s with
      lnk := s.lnk.posted s.uptime
        [(.cableState, false, .circuit c, cableFields (f (cableAt s c)) (f (cableAt s c)).state)] } := by
  have hat : cableAt (onCable c f s) c = f (cableAt s c) := Tab.get_modify_same ..
  have hstate : cableState (onCable c f s) c = (f (cableAt s c)).state := by
    rw [cableState, hat]
    exact if_pos hfitted
  rw [cableReport_eq, hat, hstate]
  rfl

/-- R200: a presence byte, then four bytes; behind a presence byte of 0 they are free (log 22). -/
theorem uptime?_bytes (s : State) (o : Option Stamp) : (uptime? s o).length = 5 ∧
    (o = none → (uptime? s o).head? = some 0) ∧ ∀ y, o = some y → uptime? s o = 1 :: be32 y.recorded.toNat := by
  cases o with
  | none => exact ⟨rfl, fun _ => rfl, fun y h => by simp at h⟩
  | some x =>
    refine ⟨rfl, fun h => by simp at h, fun y h => ?_⟩
    cases h
    rfl

/-! ### The abandonment a suspension brings (R160, R164) -/

theorem abandon_cable (h : s.cbl.test = some w) : (abandon s).cbl.cable =
    s.cbl.cable.modify w.circuit fun x => { x with abandons := min (x.abandons + 1) 255 } := by
  obtain ⟨p, r, hcbl, -⟩ := commandRelease_cbl_eq s
  simp only [abandon, h, onCable, State.onCbl_cbl, (withdraw_waiting .cbl (commandRelease false s)).1, hcbl]
  rfl

/-- R111: a WAITING request of CBL's, withdrawn, leaves its slot EMPTY. -/
theorem abandon_slot (h : s.cbl.test = some w) {q : Req} (hq : s.mea.cbl = .waiting q) :
    (abandon s).mea.cbl = .empty := by
  obtain ⟨x, hrelease⟩ := commandRelease_cbl false s
  have hwaiting : ({ s with cbl := x } : State).mea.isWaiting .cbl = true := by
    simp [Mea.isWaiting, Mea.slot, hq, SlotContent.waiting?]
  simp only [abandon, h, onCable, hrelease, withdraw, if_pos hwaiting]
  rfl

/-- R164: after an abandonment no test is in flight on a circuit that is not eligible, and none of its channels is
asked for. -/
theorem measures_spares (n : Nat) (hnone : s.cbl.test = none) (hc : testEligible s c = false) :
    (∀ w, (measures n s).cbl.test = some w → w.circuit ≠ c) ∧
    (s.mea.cbl = .empty → ∀ q, q.channel ∈ [.voltage c, .loop c, .leak c] → (measures n s).mea.cbl ≠ .waiting q) := by
  cases hnext : nextTest s with
  | none =>
    have hkeeps := measures_keepsCableRequest_of_none n hnone hnext
    refine ⟨fun w hw => ?_, fun hslot q _ hq => ?_⟩
    · simp [hkeeps.test, hnone] at hw
    · have hempty := hkeeps.slot
      rw [hslot] at hempty
      simp [hempty.of_empty] at hq
  | some d =>
    have hd : d ≠ c := fun h => by simp [← h, nextTest_eligible hnext] at hc
    obtain ⟨hasks, hwaits⟩ := measures_starts n hnone hnext
    by_cases hslot : s.mea.cbl = .empty
    · obtain ⟨htest, hasked⟩ := hasks hslot
      refine ⟨fun w hw => ?_, fun _ q hch hq => ?_⟩
      · cases htest.symm.trans hw
        exact hd
      · rcases hasked with h | h
        · cases h.symm.trans hq
          simp [hd] at hch
        · simp [h] at hq
    · refine ⟨fun w hw => ?_, fun h => absurd h hslot⟩
      cases (hwaits hslot).symm.trans hw
      exact hd

/-- R150: no test starts until the injector is FREE. -/
theorem measures_rests (n : Nat) (hnone : s.cbl.test = none) (hpos : s.cbl.pos ≠ .free) :
    (measures n s).cbl.test = none ∧ (s.mea.cbl = .empty → (measures n s).mea.cbl = .empty) := by
  have hnext : nextTest s = none := by
    cases hnext : nextTest s with
    | none => rfl
    | some d =>
      obtain ⟨-, -, -, -, -, -, hfree⟩ := testEligible_iff.mp (nextTest_eligible hnext)
      exact absurd hfree hpos
  have hkeeps := measures_keepsCableRequest_of_none n hnone hnext
  refine ⟨hkeeps.test.trans hnone, fun hslot => ?_⟩
  have hgranted := hkeeps.slot
  rw [hslot] at hgranted
  exact hgranted.of_empty

/-! ### The request and its effects (R163, R164) -/

theorem withFitted_number (hfitted : s.jds.fitted c = true) (judge : Circuit → Judge) :
    withFitted [number c] judge s = judge c s := by
  rw [withFitted, byteAt_cons_zero, index?_number (by decide)]
  exact if_pos hfitted

/-- BAD-FIELD for a circuit that is not fitted, and for a byte that names none. -/
theorem withFitted_of_unfitted {b : Byte} (h : ∀ c, b = number c → s.jds.fitted c = false)
    (judge : Circuit → Judge) : withFitted [b] judge s = (.badField 1, s) := by
  rw [withFitted, byteAt_cons_zero]
  by_cases hb : ∃ c : Circuit, b = number c
  · obtain ⟨c, rfl⟩ := hb
    rw [index?_number (by decide)]
    exact if_neg (by simp [h c rfl])
  · push Not at hb
    rw [index?_of_ne_number hb]

theorem cableTestNow_of_takes {tag b : Byte} {a : Answer} (h : takes s 0x2A tag [b] = true)
    (hjudge : withFitted [b] judgeTestNow (takeRequest s) = (a, u)) :
    exec (.cableTestNow tag [b]) s = .next (finish (reply 0xAA tag a u)) := serve_of_judge h rfl hjudge

theorem cableSuspend_of_takes {tag b : Byte} {a : Answer} (h : takes s 0x2B tag [b] = true)
    (hjudge : withFitted [b] judgeSuspend (takeRequest s) = (a, u)) :
    exec (.cableSuspend tag [b]) s = .next (finish (reply 0xAB tag a u)) := serve_of_judge h rfl hjudge

theorem cableResume_of_takes {tag b : Byte} {a : Answer} (h : takes s 0x2C tag [b] = true)
    (hjudge : withFitted [b] judgeUnsuspend (takeRequest s) = (a, u)) :
    exec (.cableResume tag [b]) s = .next (finish (reply 0xAC tag a u)) := serve_of_judge h rfl hjudge

/-- What a request of CBL's leaves once it is settled: CBL and MEA, and these reports. -/
def CableEffects (l : List Posting) (s u : State) : Prop :=
  u = { takeRequest s with mea := u.mea, cbl := u.cbl, lnk := s.lnk.taken.posted s.uptime l }

theorem CableEffects.inbox {l : List Posting} (h : CableEffects l s u) (hinbox : s.flt.inbox = []) :
    u.flt.inbox = [] := by
  rw [h]
  exact hinbox

theorem CableEffects.replied {l : List Posting} (h : CableEffects l s u) (hinbox : s.flt.inbox = []) (kind tag : Byte) :
    Answered s kind tag .ok (finish (reply kind tag .ok (settle u))) ∧
    (finish (reply kind tag .ok (settle u))).jds = s.jds ∧ (finish (reply kind tag .ok (settle u))).osw = s.osw ∧
    (finish (reply kind tag .ok (settle u))).flt = s.flt ∧
    (finish (reply kind tag .ok (settle u))).cbl.cable = u.cbl.cable ∧
    Posted l s (finish (reply kind tag .ok (settle u))) := by
  have hplaces := settle_places (h.inbox hinbox)
  generalize settle u = v at *
  obtain ⟨hjds, -, -, -, hflt, hlnk, -, hcable⟩ := hplaces.frame
  have hosw := hplaces.osw_eq
  have hu : u.lnk = s.lnk.taken.posted s.uptime l ∧ u.jds = s.jds ∧ u.osw = s.osw ∧ u.flt = s.flt := by
    rw [h]
    exact ⟨rfl, rfl, rfl, rfl⟩
  obtain ⟨hulnk, hujds, huosw, huflt⟩ := hu
  rw [hulnk] at hlnk
  refine ⟨answered_of_effects ?_, hjds.trans hujds, hosw.trans huosw, hflt.trans huflt, hcable, posted_of_effects hlnk⟩
  rw [hlnk]
  exact Lnk.posted_frame _ _ _

/-! ### A suspension (R164) -/

/-- R164: the circuit suspended, and its CABLE-STATE reported. -/
def suspended (c : Circuit) (s : State) : State :=
  cableReport c (onCable c (fun x => { x with suspended := true, overdue := false }) s)

theorem judgeSuspend_eq (h : (s.cbl.cable.get c).suspended = false) :
    judgeSuspend c s = (.ok, settle (suspended c (if testOn s c then abandon s else s))) :=
  if_neg (by simp [cableAt, h])

theorem judgeTestNow_eq (h : testOn s c = false) :
    judgeTestNow c s = (.ok, settle (onCable c (fun x => { x with retestDue := true }) s)) :=
  if_neg (Bool.eq_false_iff.mp h)

theorem testOn_iff : testOn s c = true ↔ ∃ w, s.cbl.test = some w ∧ w.circuit = c := by
  simp only [testOn, Option.any_eq_true, decide_eq_true_eq]

theorem suspended_effects (hfitted : s.jds.fitted c = true)
    (hframe : t = { takeRequest s with mea := t.mea, cbl := t.cbl }) {n : Nat}
    (hcable : cableAt t c = { s.cbl.cable.get c with abandons := n }) :
    CableEffects [(.cableState, false, .circuit c, cableFields (s.cbl.cable.get c) .suspended)] s (suspended c t) := by
  have hjds : t.jds.fitted c = true := by
    rw [hframe]
    exact hfitted
  rw [suspended, cableReport_onCable hjds, hcable, CableEffects, hframe]
  rfl

theorem suspended_cable (c : Circuit) (s : State) : (suspended c s).cbl = { s.cbl with
    cable := s.cbl.cable.modify c fun x => { x with suspended := true, overdue := false } } := rfl

/-- R150: a suspended circuit is not eligible. -/
theorem testEligible_suspended (c : Circuit) (s : State) : testEligible (suspended c s) c = false := by
  refine Bool.eq_false_iff.mpr fun h => ?_
  obtain ⟨-, hsuspended, -⟩ := testEligible_iff.mp h
  simp [suspended_cable] at hsuspended

/-- R164: the suspension of a circuit that is not under test. -/
theorem suspended_spared (hfitted : s.jds.fitted c = true) : CableEffects
    [(.cableState, false, .circuit c, cableFields (s.cbl.cable.get c) .suspended)] s (suspended c (takeRequest s)) :=
  suspended_effects hfitted rfl (n := (s.cbl.cable.get c).abandons) rfl

/-- R160, R164: the suspension of a circuit under test. -/
theorem suspended_abandoned (hw : s.cbl.test = some w) (hfitted : s.jds.fitted w.circuit = true) :
    CableEffects [(.cableState, false, .circuit w.circuit, cableFields (s.cbl.cable.get w.circuit) .suspended)] s
      (suspended w.circuit (abandon (takeRequest s))) := by
  refine suspended_effects hfitted ?_ (n := min ((s.cbl.cable.get w.circuit).abandons + 1) 255) ?_
  · obtain ⟨x, m, h⟩ := abandon_eq (takeRequest s)
    rw [h]
  · rw [cableAt, abandon_cable (s := takeRequest s) hw]
    exact Tab.get_modify_same ..

theorem suspended_abandoned_cable (hw : s.cbl.test = some w) :
    (suspended w.circuit (abandon s)).cbl.cable = s.cbl.cable.set w.circuit { s.cbl.cable.get w.circuit with
      suspended := true, overdue := false, abandons := min ((s.cbl.cable.get w.circuit).abandons + 1) 255 } := by
  rw [suspended_cable, abandon_cable hw, Tab.modify_modify]
  rfl

/-- R148, R160, R164: what the suspension of a circuit under test leaves of CBL and of its request. -/
theorem settle_suspended_abandoned (hw : s.cbl.test = some w) (hinbox : s.flt.inbox = []) :
    (settle (suspended w.circuit (abandon s))).cbl.cable = s.cbl.cable.set w.circuit { s.cbl.cable.get w.circuit with
      suspended := true, overdue := false, abandons := min ((s.cbl.cable.get w.circuit).abandons + 1) 255 } ∧
    (∀ m, s.cbl.pos = .on w.circuit m →
      (settle (suspended w.circuit (abandon s))).cbl.pos = .releasing w.circuit m false ∧
      (settle (suspended w.circuit (abandon s))).cbl.release = some ⟨0, 100⟩ ∧
      (settle (suspended w.circuit (abandon s))).cbl.test = none ∧
      ∀ q, s.mea.cbl = .waiting q → (settle (suspended w.circuit (abandon s))).mea.cbl = .empty) ∧
    ((∀ d m, s.cbl.pos ≠ .on d m) → (settle (suspended w.circuit (abandon s))).cbl.pos = s.cbl.pos ∧
      (∀ x, (settle (suspended w.circuit (abandon s))).cbl.test = some x → x.circuit ≠ w.circuit) ∧
      ∀ q, s.mea.cbl = .waiting q → q.channel ∈ [.voltage w.circuit, .loop w.circuit, .leak w.circuit] →
        (settle (suspended w.circuit (abandon s))).mea.cbl ≠ .waiting q) := by
  obtain ⟨hnone, hreleases, -⟩ := abandon_of_some hw
  have hslot := fun q hq => abandon_slot (q := q) hw hq
  have hcable := suspended_abandoned_cable hw
  have hineligible := testEligible_suspended w.circuit (abandon s)
  have hempty : (suspended w.circuit (abandon s)).flt.inbox = [] := by
    obtain ⟨x, m, h⟩ := abandon_eq s
    rw [h]
    exact hinbox
  have hnone : (suspended w.circuit (abandon s)).cbl.test = none := hnone
  have hreleases : Releases s.cbl (suspended w.circuit (abandon s)).cbl := ⟨hreleases.of_on, hreleases.of_not_on⟩
  have hslot : ∀ q, s.mea.cbl = .waiting q → (suspended w.circuit (abandon s)).mea.cbl = .empty := hslot
  generalize suspended w.circuit (abandon s) = u at *
  have hcbl := (measures_places 0 u).cbl_eq
  have hpos : (measures 0 u).cbl.pos = u.cbl.pos := by rw [hcbl]
  have hrelease : (measures 0 u).cbl.release = u.cbl.release := by rw [hcbl]
  rw [settle_of_empty hempty]
  refine ⟨?_, fun m hon => ?_, fun hoff => ?_⟩
  · rw [← hcable, hcbl]
  · obtain ⟨hreleasing, hlimit⟩ := hreleases.of_on _ _ hon
    obtain ⟨hrest, hrests⟩ := measures_rests 0 hnone (by rw [hreleasing]; exact InjPos.noConfusion)
    exact ⟨hpos.trans hreleasing, hrelease.trans hlimit, hrest, fun q hq => hrests (hslot q hq)⟩
  · obtain ⟨hspared, hspares⟩ := measures_spares 0 hnone hineligible
    exact ⟨hpos.trans (hreleases.of_not_on hoff).1, hspared, fun q hq => hspares (hslot q hq) q⟩

/-! ### The end of a suspension (R162, R164; log 57) -/

/-- R164: the circuit's suspension ended, and its CABLE-STATE reported. -/
def resumed (c : Circuit) (s : State) : State := cableReport c (onCable c (fun x => { x with suspended := false }) s)

theorem judgeUnsuspend_eq (h : (s.cbl.cable.get c).suspended = true) : judgeUnsuspend c s =
    (.ok, settle (if overdueNow (resumed c s) c then setOverdue c (resumed c s) else resumed c s)) :=
  if_pos h

/-- R162: a circuit is overdue as its suspension ends. -/
theorem overdueNow_resumed (hfitted : s.jds.fitted c = true) : overdueNow (resumed c s) c = true ↔
    (s.cbl.cable.get c).overdue = false ∧
      2 * ((s.jds.circuit.get c).testPeriod * 60000) ≤ (s.cbl.cable.get c).dueFrom.elapsed := by
  have hjds : (resumed c s).jds = s.jds := rfl
  have hcable : cableAt (resumed c s) c = { s.cbl.cable.get c with suspended := false } := Tab.get_modify_same ..
  simp only [overdueNow, hjds, hcable, hfitted, Bool.and_eq_true, decide_eq_true_eq, Bool.not_eq_true', and_self,
    true_and]
  rfl

/-- R162: the report of an overdue circuit. -/
def overduePosting (c : Circuit) (s : State) : Posting :=
  (.testOverdue, false, .circuit c, b8 (s.cbl.cable.get c).abandons :: uptime? s (s.cbl.cable.get c).lastTest)

theorem resumed_effects (hfitted : s.jds.fitted c = true) :
    CableEffects [(.cableState, false, .circuit c,
      cableFields (s.cbl.cable.get c) { s.cbl.cable.get c with suspended := false }.state)] s
      (resumed c (takeRequest s)) := by
  rw [resumed, cableReport_onCable (s := takeRequest s) hfitted, CableEffects]
  rfl

theorem setOverdue_eq (c : Circuit) (s : State) : setOverdue c s = {
    onCable c (fun x => { x with overdue := true }) s with
    lnk := s.lnk.posted s.uptime [overduePosting c s] } := by
  have hcable : cableAt (onCable c (fun x => { x with overdue := true }) s) c =
      { s.cbl.cable.get c with overdue := true } := Tab.get_modify_same ..
  rw [setOverdue, hcable, post_eq]
  rfl

theorem CableEffects.setOverdue {l : List Posting} (h : CableEffects l s u)
    (hposting : overduePosting c u = overduePosting c s) :
    CableEffects (l ++ [overduePosting c s]) s (setOverdue c u) := by
  rw [setOverdue_eq, CableEffects, hposting, Lnk.posted_append]
  rw [h]
  rfl

theorem overduePosting_resumed (s : State) (c : Circuit) :
    overduePosting c (resumed c (takeRequest s)) = overduePosting c s := by
  have hcable : (resumed c (takeRequest s)).cbl.cable.get c = { s.cbl.cable.get c with suspended := false } :=
    Tab.get_modify_same ..
  rw [overduePosting, hcable]
  rfl

theorem setOverdue_resumed_cable (c : Circuit) (s : State) : (setOverdue c (resumed c s)).cbl.cable =
    s.cbl.cable.set c { s.cbl.cable.get c with suspended := false, overdue := true } := by
  rw [setOverdue_eq]
  exact Tab.modify_modify s.cbl.cable c (fun x => { x with suspended := false }) fun x => { x with overdue := true }

/-- R147: the cable state a fitted circuit's section shows. -/
theorem cableState_of_set {x : Cable} (hjds : t.jds = s.jds) (hfitted : s.jds.fitted c = true)
    (hcable : t.cbl.cable = s.cbl.cable.set c x) : cableState t c = x.state := by
  rw [cableState, hjds, if_pos hfitted, cableAt, hcable, Tab.get_set_same]

end Sys2Proof.Machine

namespace Sys2Proof.Proofs

open Sys2Proof Sys2Proof.Machine

/-- Settles O55: each request's judgement, what it has done before CBL settles (`CableEffects`), and what settling
leaves of that. -/
theorem cableRequests : Obligations.CableRequests := by
  unfold Obligations.CableRequests
  refine ⟨fun tag c s hfitted hinbox => ?fitted, fun tag b s hunfitted => ?unfitted⟩
  case unfitted =>
    have refused (judge : Circuit → Judge) : withFitted [b] judge (takeRequest s) = (.badField 1, takeRequest s) :=
      withFitted_of_unfitted (s := takeRequest s) hunfitted judge
    exact ⟨fun htakes => ⟨_, cableTestNow_of_takes htakes (refused _), replied_of_unchanged _ _ _ s⟩,
      fun htakes => ⟨_, cableSuspend_of_takes htakes (refused _), replied_of_unchanged _ _ _ s⟩,
      fun htakes => ⟨_, cableResume_of_takes htakes (refused _), replied_of_unchanged _ _ _ s⟩⟩
  intro x shows past
  have names (judge : Circuit → Judge) : withFitted [number c] judge (takeRequest s) = judge c (takeRequest s) :=
    withFitted_number (s := takeRequest s) hfitted judge
  refine ⟨fun htakes => ?testNow, fun htakes => ?suspend, fun htakes => ?resume⟩
  case testNow =>
    by_cases hbusy : ∃ w, s.cbl.test = some w ∧ w.circuit = c
    · exact ⟨_, cableTestNow_of_takes htakes ((names _).trans (if_pos (testOn_iff.mpr hbusy))),
        fun _ => replied_of_unchanged _ _ _ s, fun h => absurd hbusy h⟩
    · have heffects : CableEffects [] s (onCable c (fun x => { x with retestDue := true }) (takeRequest s)) := rfl
      obtain ⟨hanswered, hjds, hosw, hflt, hcbl, -⟩ := heffects.replied hinbox 0xAA tag
      have hjudge := judgeTestNow_eq (s := takeRequest s) (Bool.eq_false_iff.mpr (mt testOn_iff.mp hbusy))
      exact ⟨_, cableTestNow_of_takes htakes ((names _).trans hjudge),
        fun h => absurd h hbusy, fun _ => ⟨hanswered, hcbl, hjds, hosw, hflt⟩⟩
  case suspend =>
    cases hsuspended : x.suspended with
    | true =>
      exact ⟨_, cableSuspend_of_takes htakes ((names _).trans (if_pos hsuspended)),
        fun _ => replied_of_unchanged _ _ _ s, fun h => by simp at h⟩
    | false =>
      have hjudge := judgeSuspend_eq (s := takeRequest s) hsuspended
      by_cases htest : ∃ w, s.cbl.test = some w ∧ w.circuit = c
      · rw [if_pos (testOn_iff (s := takeRequest s).mpr htest)] at hjudge
        obtain ⟨w, hw, rfl⟩ := htest
        obtain ⟨hanswered, hjds, hosw, hflt, hcbl, hposted⟩ :=
          (suspended_abandoned hw hfitted).replied hinbox 0xAB tag
        obtain ⟨hcable, hon, hnotOn⟩ := settle_suspended_abandoned (s := takeRequest s) hw hinbox
        exact ⟨_, cableSuspend_of_takes htakes ((names _).trans hjudge), fun h => by simp at h, fun _ =>
          ⟨hanswered, hjds, hosw, hflt, fun h => absurd ⟨w, hw, rfl⟩ h, fun m _ hpos => ⟨hcable, hon m hpos⟩,
            fun _ hpos => ⟨hcable, hnotOn hpos⟩, hposted⟩⟩
      · rw [if_neg (mt (testOn_iff (s := takeRequest s)).mp htest)] at hjudge
        obtain ⟨hanswered, hjds, hosw, hflt, hcbl, hposted⟩ := (suspended_spared hfitted).replied hinbox 0xAB tag
        exact ⟨_, cableSuspend_of_takes htakes ((names _).trans hjudge), fun h => by simp at h, fun _ =>
          ⟨hanswered, hjds, hosw, hflt, fun _ => hcbl, fun _ h => absurd h htest,
            fun h => absurd h htest, hposted⟩⟩
  case resume =>
    cases hsuspended : x.suspended with
    | false =>
      exact ⟨_, cableResume_of_takes htakes ((names _).trans (if_neg (Bool.eq_false_iff.mp hsuspended))),
        fun _ => replied_of_unchanged _ _ _ s, fun h => by simp at h⟩
    | true =>
      have hjudge := judgeUnsuspend_eq (s := takeRequest s) hsuspended
      have hdue := overdueNow_resumed (s := takeRequest s) hfitted
      have hresumed := resumed_effects hfitted
      obtain ⟨hlength, hnone, hsome⟩ := uptime?_bytes s x.lastTest
      by_cases hover : x.overdue = false ∧ past
      · rw [if_pos (hdue.mpr hover)] at hjudge
        obtain ⟨hanswered, hjds, hosw, hflt, hcable, hposted⟩ :=
          (hresumed.setOverdue (overduePosting_resumed s c)).replied hinbox 0xAC tag
        rw [setOverdue_resumed_cable] at hcable
        refine ⟨_, cableResume_of_takes htakes ((names _).trans hjudge), fun h => by simp at h, fun _ =>
          ⟨hanswered, hjds, hosw, hflt, ?_, uptime? s x.lastTest, hlength, hnone, hsome, ?_⟩⟩
        · rw [hcable, hover.1, decide_eq_true hover.2]
          rfl
        · rw [if_pos hover, cableState_of_set hjds hfitted hcable]
          exact hposted
      · rw [if_neg (mt hdue.mp hover)] at hjudge
        obtain ⟨hanswered, hjds, hosw, hflt, hcable, hposted⟩ := hresumed.replied hinbox 0xAC tag
        refine ⟨_, cableResume_of_takes htakes ((names _).trans hjudge), fun h => by simp at h, fun _ =>
          ⟨hanswered, hjds, hosw, hflt, ?_, uptime? s x.lastTest, hlength, hnone, hsome, ?_⟩⟩
        · have hkeep : (x.overdue || decide past) = x.overdue := by
            cases hoverdue : x.overdue with
            | true => rfl
            | false => exact decide_eq_false fun h => hover ⟨hoverdue, h⟩
          rw [hkeep]
          exact hcable
        · rw [if_neg hover, cableState_of_set hjds hfitted hcable]
          exact hposted

end Sys2Proof.Proofs
end

section
/-! PROOF. The injector's release and its stuck condition (R148, R149), the entering circuit that waits with it (R102;
log 47), the overdue flag (R162), and `Obligations.InjectorAndOverdue` from them. -/

namespace Sys2Proof.Machine

variable {s t : State} {c d : Circuit} {m : InjMode} {afterTest : Bool}

/-! ### An entering circuit that stays off for now (R102, third pair) -/

/-- The circuit is off, and a command of this moment may make it not wanted. -/
def HeldOff (c : Circuit) (s : State) : Prop := s.osw.freed = some c ∧ (relayAt s c).coil.commanded = false

theorem Switches.freed_eq (h : Switches s t) : t.osw.freed = s.osw.freed := by rw [h]

@[simp] theorem enterPhase_freed (p : Phase) (s : State) : (enterPhase p s).osw.freed = s.osw.freed := rfl

theorem completeDark_freed (s : State) : (completeDark s).osw.freed = s.osw.freed := by
  have hoff := (allOff_switches s).freed_eq
  by_cases h : restartsBehind s = true
  · rw [completeDark_of_restarts h, (Switches.forEach act_switches _).freed_eq, enterPhase_freed, hoff]
  · rw [completeDark_of_stays_off h, enterPhase_freed, hoff]

theorem HeldOff.darkCheck (h : HeldOff c s) : HeldOff c (darkCheck s) := by
  unfold Machine.darkCheck
  split
  · exact ⟨(completeDark_freed s).trans h.1, completeDark_commanded c s⟩
  · exact h

/-- R99, R102: a circuit that is held off is not judged. -/
theorem HeldOff.judgeCircuit (d : Circuit) (h : HeldOff c s) : HeldOff c (judgeCircuit d s) := by
  obtain ⟨hfreed, hoff⟩ := h
  refine ⟨(judgeCircuit_switches d s).freed_eq.trans hfreed, ?_⟩
  rw [relayAt_judgeCircuit, if_neg]
  · exact hoff
  · rintro ⟨rfl, -, hmay⟩
    obtain ⟨-, -, -, -, hnot⟩ := mayEnergise_iff.mp hmay
    exact hnot hfreed

theorem HeldOff.oswAfter (h : HeldOff c s) : (relayAt (oswAfter s) c).coil.commanded = false := by
  have hjudged : HeldOff c (forEach Machine.judgeCircuit (Machine.darkCheck s)) :=
    forEach_keeps (fun d t => HeldOff.judgeCircuit d) h.darkCheck
  rw [relayAt_oswAfter, switched, (asked_asks _).coil]
  exact hjudged.2

/-! ### The injector (R148, R149) -/

theorem groupCommandWaits_iff : groupCommandWaits s = true ↔
    ∃ i ∈ s.pending, i = .timetableEntryDue ∨ ∃ n, i = .conversionComplete n := by
  rw [groupCommandWaits, List.any_eq_true]
  refine exists_congr fun i => and_congr_right fun _ => ?_
  split <;> simp_all

/-- R148: the injector FREE, before OSW judges. -/
def freeInjector (c : Circuit) (afterTest : Bool) (s : State) : State := { s with
  cbl := { s.cbl with pos := .free, release := none, stuck := s.cbl.stuck && !endsStuck s afterTest }
  osw := { s.osw with
    relay := s.osw.relay.modify c fun r => { r with releaseAsked := false }
    freed := if (relayAt s c).entering && groupCommandWaits s then some c else none }
  flt := { s.flt with
    inbox := s.flt.inbox ++ if endsStuck s afterTest then [.clear .injectorStuck .none] else [] } }

theorem injectorFree_eq (c : Circuit) (afterTest : Bool) (s : State) :
    injectorFree c afterTest s = oswAfter (freeInjector c afterTest s) := by
  unfold injectorFree freeInjector
  cases endsStuck s afterTest with
  | true => rfl
  | false =>
    rw [if_neg Bool.false_ne_true, List.append_nil]
    rfl

theorem injectorClear_of_releasing (h : s.cbl.pos = .releasing c m afterTest) :
    exec .injectorClear s = .next (conclude (oswAfter (freeInjector c afterTest s))) := by
  show execInjectorClear s = _
  simp only [execInjectorClear, h, injectorFree_eq]

theorem endsStuck_iff : endsStuck s afterTest = true ↔
    s.cbl.stuck = true ∧ afterTest = true ∧ s.cbl.release ≠ none := by
  simp only [endsStuck, Bool.and_eq_true, Option.isSome_iff_ne_none, and_assoc]

theorem relayAt_freeInjector_same (c : Circuit) (afterTest : Bool) (s : State) :
    relayAt (freeInjector c afterTest s) c = { relayAt s c with releaseAsked := false } := Tab.get_modify_same ..

theorem relayAt_freeInjector_ne (afterTest : Bool) (s : State) (h : d ≠ c) :
    relayAt (freeInjector c afterTest s) d = relayAt s d := by
  show (s.osw.relay.modify c _).get d = _
  rw [Tab.get_modify, if_neg h.symm]
  rfl

theorem injectorStuck_of_due (hpos : s.cbl.pos = .releasing c m afterTest) (hdue : timerDue s.cbl.release = true) :
    exec .injectorStuck s = .next (conclude { s with
      cbl := { s.cbl with release := none, stuck := true }
      flt := { s.flt with inbox := s.flt.inbox ++ [.raise .injectorStuck .none 0xFF] } }) := by
  show execInjectorStuck s = _
  unfold execInjectorStuck
  split
  · rw [if_pos hdue]
    rfl
  next h => exact absurd hpos (h c m afterTest)

/-! ### The overdue flag (R162) -/

theorem overdueNow_iff : overdueNow s c = true ↔ s.jds.fitted c = true ∧ (s.cbl.cable.get c).suspended = false ∧
    (s.cbl.cable.get c).overdue = false ∧
    2 * ((s.jds.circuit.get c).testPeriod * 60000) ≤ (s.cbl.cable.get c).dueFrom.elapsed := by
  simp only [overdueNow, Bool.and_eq_true, decide_eq_true_eq, Bool.not_eq_true', and_assoc]
  rfl

end Sys2Proof.Machine

namespace Sys2Proof.Proofs

open Sys2Proof Sys2Proof.Machine

/-- Settles O58. The injector's release is `freeInjector`, after which OSW judges; `HeldOff` is what its judgements keep
of the entering circuit that waits. -/
theorem injectorAndOverdue : Obligations.InjectorAndOverdue := by
  unfold Obligations.InjectorAndOverdue
  refine ⟨fun c m afterTest s hpos => ?clear, fun c m afterTest x s hpos hrelease hdue => ?stuck,
    fun c s hfitted hsuspended hover hpast => ?overdue⟩
  case clear =>
    have hrelay := relayAt_freeInjector_same c afterTest s
    refine ⟨_, injectorClear_of_releasing hpos, rfl, rfl, rfl, rfl, by rw [hrelay], by rw [hrelay], by rw [hrelay],
      fun e he => relayAt_freeInjector_ne afterTest s he, rfl, rfl, ⟨rfl, fun hwaits => ?waits, fun hnot => ?free⟩,
      ?ends⟩
    case waits =>
      obtain ⟨henter, hcommand⟩ := hwaits
      have hfreed : (freeInjector c afterTest s).osw.freed = some c :=
        if_pos (by rw [henter, groupCommandWaits_iff.mpr hcommand, Bool.and_self])
      exact ⟨hfreed, fun hoff => HeldOff.oswAfter ⟨hfreed, by rw [hrelay]; exact hoff⟩⟩
    case free =>
      exact if_neg (by rwa [Bool.and_eq_true, groupCommandWaits_iff])
    case ends =>
      have hends := endsStuck_iff (s := s) (afterTest := afterTest)
      by_cases h : endsStuck s afterTest = true
      · rw [if_pos (hends.mp h), freeInjector, h]
        exact ⟨Bool.and_false _, rfl⟩
      · rw [if_neg (mt hends.mpr h), freeInjector, Bool.eq_false_iff.mpr h]
        exact ⟨Bool.and_true _, by rw [if_neg Bool.false_ne_true, List.append_nil]⟩
  case stuck => exact injectorStuck_of_due hpos (timerDue_of_limit hrelease hdue)
  case overdue =>
    obtain ⟨hlength, hnone, hsome⟩ := uptime?_bytes s (s.cbl.cable.get c).lastTest
    refine ⟨finish (setOverdue c s), if_pos (overdueNow_iff.mpr ⟨hfitted, hsuspended, hover, hpast⟩), ?frame,
      uptime? s (s.cbl.cable.get c).lastTest, ?posted, hlength, hnone, hsome⟩
    case frame =>
      rw [finish, setOverdue_eq, State.onLnk, Lnk.start_frame, Lnk.posted_frame]
      rfl
    case posted =>
      rw [Posted, posts_eq, finish, setOverdue_eq, State.onLnk, Lnk.start_frame]
      exact ⟨rfl, rfl⟩

end Sys2Proof.Proofs
end

section
/-! PROOF. Where no test is in flight and the injector is not ON, what FLT's events make of the other blocks leaves CBL
as it is (R101, R148, R159, R160). -/

namespace Sys2Proof.Machine

variable {s t u : State}

/-- No test is in flight, and the injector is not ON. -/
def CblIdle (s : State) : Prop := s.cbl.test = none ∧ ∀ c m, s.cbl.pos ≠ .on c m

/-- An idle CBL is as before. -/
def LeavesIdle (s t : State) : Prop := CblIdle s → t.cbl = s.cbl

namespace LeavesIdle

theorem of_eq (h : t.cbl = s.cbl) : LeavesIdle s t := fun _ => h

theorem refl (s : State) : LeavesIdle s s := of_eq rfl

theorem trans (h1 : LeavesIdle s t) (h2 : LeavesIdle t u) : LeavesIdle s u := by
  intro hs
  have ht := h1 hs
  have hidle : CblIdle t := by
    rw [CblIdle, ht]
    exact hs
  exact (h2 hidle).trans ht

theorem ite {p : Prop} [Decidable p] (ht : LeavesIdle s t) (hu : LeavesIdle s u) :
    LeavesIdle s (if p then t else u) := by
  split <;> assumption

theorem foldl {α : Type} {f : State → α → State} (hf : ∀ t a, LeavesIdle t (f t a)) (l : List α) (s : State) :
    LeavesIdle s (l.foldl f s) := by
  induction l generalizing s with
  | nil => exact refl s
  | cons a l ih => exact (hf s a).trans (ih _)

theorem forEach {n : Nat} {f : Fin n → State → State} (hf : ∀ i t, LeavesIdle t (f i t)) (s : State) :
    LeavesIdle s (Machine.forEach f s) := foldl (fun t i => hf i t) _ s

end LeavesIdle

/-! ### OSW and CBL's watch -/

theorem commandRelease_leavesIdle (s : State) : LeavesIdle s (commandRelease false s) :=
  fun h => by rw [commandRelease_of_not_on h.2]

theorem abandon_leavesIdle (s : State) : LeavesIdle s (abandon s) := fun h => by rw [abandon_of_none h.1]

theorem cblWatch_leavesIdle (s : State) : LeavesIdle s (cblWatch s) := fun h => by rw [cblWatch_of_none h.1]

theorem askCircuit_leavesIdle (c : Circuit) (s : State) : LeavesIdle s (askCircuit c s) :=
  .ite (.trans (t := abandon (noteAsk c s)) (abandon_leavesIdle (noteAsk c s)) (commandRelease_leavesIdle _)) (.refl s)

theorem oswAfter_leavesIdle (s : State) : LeavesIdle s (oswAfter s) := by
  have judged : (forEach judgeCircuit (darkCheck s)).cbl = s.cbl := (judged_switches _).cbl.trans (darkCheck_frame s).1
  have hswitched : LeavesIdle s (switched s) := .trans (.of_eq judged) (.forEach askCircuit_leavesIdle _)
  rw [oswAfter_eq]
  exact hswitched.trans (.trans (.of_eq (monitored_frame _).2.1) (cblWatch_leavesIdle _))

theorem groupCommand_leavesIdle (g : Group) (st : GState) (s : State) : LeavesIdle s (groupCommand g st s) :=
  .ite (.trans (.of_eq (act_switches g (store g st s)).cbl) (oswAfter_leavesIdle _)) (.of_eq rfl)

theorem darkStart_cbl (s : State) : (darkStart s).cbl = s.cbl := by
  unfold darkStart
  generalize hv : State.onOsw _ s = v
  obtain ⟨_, _, _, -, h⟩ := commandContactor_frame false v
  rw [h, ← hv]
  rfl

theorem oswMode_leavesIdle (m : Mode) (s : State) : LeavesIdle s (oswMode m s) := by
  cases m with
  | startUp =>
    have acted := Switches.forEach act_switches (enterPhase .redsFirst s)
    exact .ite (.trans (.of_eq acted.cbl) (oswAfter_leavesIdle _)) (.of_eq rfl)
  | dark => exact .ite (.trans (.of_eq (darkStart_cbl s)) (oswAfter_leavesIdle _)) (.of_eq rfl)
  | _ => exact .refl s

/-! ### SEQ's answer to a change of junction mode -/

theorem commitEntry_leavesIdle (a : Option Stage) (o : Occasion) (s : State) : LeavesIdle s (commitEntry a o s) := by
  obtain ⟨_, _, _, -, htake⟩ := takePlan_eq o s
  have taken : LeavesIdle s (startMaximum (takePlan o s)) :=
    .trans (t := takePlan o s) (.of_eq (by rw [htake])) (.ite (.of_eq rfl) (.refl _))
  exact taken.trans (cblWatch_leavesIdle (State.onSeq _ _))

theorem stopCurrent_leavesIdle (s : State) : LeavesIdle s (stopCurrent s) := by
  unfold stopCurrent
  split
  · exact .refl s
  · exact .of_eq (by rw [repost, apply_ite State.cbl]; exact ite_self _)

theorem seqStart_leavesIdle (s : State) : LeavesIdle s (seqStart s) := by
  have reddened (g : Group) (t : State) : LeavesIdle t (redGroup g t) :=
    .ite (groupCommand_leavesIdle g .red (t.onSeq _)) (.refl t)
  unfold seqStart
  generalize hv : State.onSeq _ s = v
  exact .trans (.of_eq (by rw [← hv]; rfl)) (.forEach reddened v)

theorem seqAllRed_leavesIdle (s : State) : LeavesIdle s (seqAllRed s) := by
  have emptied (t : State) : LeavesIdle t (emptyTarget t) := by
    unfold emptyTarget
    split
    · exact cblWatch_leavesIdle (t.onSeq _)
    · exact .refl t
  have terminated (t : State) : LeavesIdle t (terminate t) := .ite (commitEntry_leavesIdle none .commit t) (.refl t)
  have dropped : LeavesIdle s (s.onSeq fun q => { q with pendingAdvance := none }) := .of_eq rfl
  exact .ite (dropped.trans (emptied _)) (dropped.trans (terminated _))

theorem seqEnd_leavesIdle (s : State) : LeavesIdle s (seqEnd s) := by
  have running : LeavesIdle s (if inDemandPlan s then s else s.onSeq fun q => { q with substate := some .running }) :=
    .ite (.refl s) (.of_eq rfl)
  exact .ite (running.trans (commitEntry_leavesIdle _ _ _)) (.refl s)

theorem seqMode_leavesIdle (prev new : Mode) (s : State) : LeavesIdle s (seqMode prev new s) := by
  unfold seqMode
  split
  · exact stopCurrent_leavesIdle s
  · exact stopCurrent_leavesIdle s
  · exact seqStart_leavesIdle s
  · exact seqAllRed_leavesIdle s
  · exact seqEnd_leavesIdle s
  · exact commitEntry_leavesIdle none .resume (noStage s)
  · exact .refl s

/-! ### FLT takes its events -/

theorem changeMode_leavesIdle (new : Mode) (cause : ModeCause) (s : State) : LeavesIdle s (changeMode new cause s) := by
  have entered : LeavesIdle s (if new = .dark then setAside (s.onFlt fun f => { f with mode := new })
      else s.onFlt fun f => { f with mode := new }) := .ite (.of_eq rfl) (.of_eq rfl)
  have handed := (entered.trans (seqMode_leavesIdle s.flt.mode new _)).trans (oswMode_leavesIdle new _)
  exact .ite (p := (s.flt.mode = .dark && new = .startUp) = true) (t := lmpRestart _) handed handed

theorem startUp_leavesIdle (cause : ModeCause) (s : State) : LeavesIdle s (startUp cause s) := by
  have cleared (t : State) : LeavesIdle t (clearStandIns t) :=
    .foldl (fun v (e : FEntry) => .of_eq (t := clearEntry e.kind e.subject v) rfl) _ t
  have started := (changeMode_leavesIdle .startUp cause s).trans (cleared _)
  unfold startUp
  simp only
  split
  · exact .ite (started.trans (changeMode_leavesIdle _ _ _)) started
  · exact started

theorem fltTake_leavesIdle (e : FltEvent) (s : State) : LeavesIdle s (fltTake e s) := by
  cases e with
  | raise k j d =>
    have responded (r : Response) (t : State) : LeavesIdle t (respond r k j t) :=
      .ite (.ite (.of_eq rfl) (.refl t))
        (.ite (changeMode_leavesIdle _ _ (t.onFlt _)) (changeMode_leavesIdle _ _ t))
    have recorded : LeavesIdle s (record k j s).2 := .of_eq (by rw [(record_eq k j s).1])
    exact recorded.trans (responded _ (post .faultRaised true j.report _ (record k j s).2))
  | clear k j =>
    change LeavesIdle s (takeClear k j s)
    unfold takeClear
    split
    · exact .of_eq rfl
    · split
      · exact .ite (startUp_leavesIdle .autoRestart (clearEntry k j s)) (.of_eq rfl)
      · exact .of_eq rfl
      · exact .refl s
  | passed k j =>
    have passed (k : FaultKind) (t : State) : LeavesIdle t (passEntry k j t) := .ite (.of_eq rfl) (.refl t)
    exact .ite ((passed k s).trans (passed _ _)) (passed k s)
  | firstInterstage => exact .ite (changeMode_leavesIdle _ _ s) (.refl s)

theorem drain_leavesIdle (n : Nat) (s : State) : LeavesIdle s (drain n s) := by
  induction n generalizing s with
  | zero => exact .of_eq rfl
  | succ n ih =>
    unfold drain
    split
    · exact .refl s
    · exact (fltTake_leavesIdle _ (s.onFlt _)).trans (ih _)

end Sys2Proof.Machine
end

section
/-! PROOF. The completion of a cable test (R153, R155 to R158): the section it leaves, what FLT hears, the retest and
the report, and `Obligations.LeakReadingCompletesTest` from them. -/

namespace Sys2Proof.Machine

variable {s t u : State} {w : Test} {c : Circuit} {m : InjMode} {b n : Nat} {l : Option Nat}

/-! ### Judgement (R155 to R157) -/

theorem showsForeign_iff : showsForeign s n l = true ↔
    s.jds.timing.foreignOpen < n ∧ ∃ v, l = some v ∧ s.jds.timing.foreignLoaded < v := by
  simp only [showsForeign, Bool.and_eq_true, decide_eq_true_eq, Option.any_eq_true]

theorem showsInduced_iff : showsInduced s n l = true ↔
    s.jds.timing.foreignOpen < n ∧ ∃ v, l = some v ∧ v ≤ s.jds.timing.foreignLoaded := by
  simp only [showsInduced, Bool.and_eq_true, decide_eq_true_eq, Option.any_eq_true]

theorem showsOpen_iff : showsOpen b l = true ↔ ∃ v, l = some v ∧ (v = 4095 ∨ (0 < b ∧ 4 * b < v)) := by
  simp only [showsOpen, Option.any_eq_true, Bool.or_eq_true, Bool.and_eq_true, decide_eq_true_eq]

theorem showsShort_iff : showsShort b l = true ↔ ∃ v, l = some v ∧ (v = 0 ∨ (0 < b ∧ 4 * v < b)) := by
  simp only [showsShort, Option.any_eq_true, Bool.or_eq_true, Bool.and_eq_true, decide_eq_true_eq]

/-- R157: one cause's runs. -/
theorem CauseRun.move_moves {shown : Bool} {p : Prop} (h : shown = true ↔ p) (x : CauseRun) :
    RunMoves p x (x.move shown) := by
  cases shown with
  | true => exact ⟨fun _ => ⟨rfl, rfl, by simp [CauseRun.move]⟩, fun hp => absurd (h.mp rfl) hp⟩
  | false =>
    have hp : ¬p := fun hp => Bool.false_ne_true (h.mpr hp)
    exact ⟨fun h => absurd h hp, fun _ => ⟨rfl, rfl, by simp [CauseRun.move]⟩⟩

/-- R156: which loop reading teaches the baseline. -/
theorem learnsBaseline_iff {foreign insulation : Bool} : learnsBaseline b l foreign insulation = true ↔
    ∃ v, l = some v ∧ b = 0 ∧ 1 ≤ v ∧ v ≤ 4094 ∧ foreign = false ∧ insulation = false := by
  simp only [learnsBaseline, inRange, Option.any_eq_true, Bool.and_eq_true, decide_eq_true_eq, Bool.not_eq_true']
  grind

/-- R147: SUSPECT, for a section with a completed test. -/
theorem Cable.state_suspect_iff {x : Cable} (h : x.lastTest ≠ none) : x.state = .suspect ↔ x.suspended = false ∧
    (∀ z ∈ [x.openRun, x.shortRun, x.insulationRun, x.foreignRun], z.confirmed = false) ∧
    ∃ z ∈ [x.openRun, x.shortRun, x.insulationRun, x.foreignRun], z.fail = 1 := by
  have hany (f : CauseRun → Bool) : x.anyCause f = true ↔
      ∃ z ∈ [x.openRun, x.shortRun, x.insulationRun, x.foreignRun], f z = true := by
    simp [Cable.anyCause, or_assoc]
  have hconfirmed : (∀ z ∈ [x.openRun, x.shortRun, x.insulationRun, x.foreignRun], z.confirmed = false) ↔
      ¬x.anyCause (·.confirmed) = true := by
    rw [hany]
    simp only [not_exists, not_and, Bool.not_eq_true]
  have hfail := hany (decide <| ·.fail = 1)
  simp only [decide_eq_true_eq] at hfail
  rw [hconfirmed, ← hfail, Cable.state, if_neg h]
  cases x.suspended <;> cases x.anyCause (·.confirmed) <;> simp

/-! ### The section and FLT's events (R158) -/

/-- The section of the test's circuit as the leak reading completes it, before the retest is judged. -/
def completedCable (w : Test) (leak : Nat) (s : State) : Cable :=
  (s.cbl.cable.get w.circuit).completed s w leak (s.jds.circuit.get w.circuit).leakLimit

/-- R158: what FLT hears of a section that was `x` and is `y`. -/
def causeEvents (j : Subject) (x y : Cable) : List FltEvent :=
  edge x.openRun.confirmed y.openRun.confirmed (.raise .cableOpen j 0xFF) (.clear .cableOpen j) ++
  edge x.shortRun.confirmed y.shortRun.confirmed (.raise .cableShort j 0xFF) (.clear .cableShort j) ++
  edge x.insulationRun.confirmed y.insulationRun.confirmed
    (.raise .cableInsulation j 0xFF) (.clear .cableInsulation j) ++
  edge x.foreignRun.confirmed y.foreignRun.confirmed (.raise .foreignVoltage j 0xFF) (.clear .foreignVoltage j)

theorem cableFaults_eq (c : Circuit) (x y : Cable) (s : State) : cableFaults c x y s = { s with
    flt := { s.flt with inbox := s.flt.inbox ++ causeEvents (.circuit c) x y } } := by
  simp only [cableFaults, onChange_eq, causeEvents, List.append_assoc]

/-- R148, R158: the test completed, before FLT takes what it hears. -/
def testCompleted (w : Test) (m : InjMode) (leak : Nat) (s : State) : State := { s with
  cbl := { s.cbl with
    cable := s.cbl.cable.set w.circuit (completedCable w leak s)
    pos := .releasing w.circuit m true, release := some ⟨0, 100⟩, test := none }
  flt := { s.flt with
    inbox := s.flt.inbox ++
      causeEvents (.circuit w.circuit) (s.cbl.cable.get w.circuit) (completedCable w leak s) } }

theorem completeTest_eq (hpos : s.cbl.pos = .on w.circuit m) (leak : Nat) : completeTest w leak s =
    cableStateAfter w.circuit (cableState s w.circuit) (drain eventFuel (testCompleted w m leak s)) := by
  have hrelease : commandRelease true s =
      s.onCbl fun x => { x with pos := .releasing w.circuit m true, release := some ⟨0, 100⟩ } := by
    simp only [commandRelease, hpos]
    rfl
  rw [completeTest, cableFaults_eq, hrelease]
  rfl

/-- R158, steps 5 and 6: the retest judged and the change of the cable state reported. -/
theorem cableStateAfter_eq (c : Circuit) (was : CableState) (s : State) : cableStateAfter c was s = { s with
    cbl := { s.cbl with
      cable := s.cbl.cable.modify c fun x => { x with
        retestDue := x.retestDue || decide (cableState s c = .suspect) } }
    lnk := if cableState s c = was then s.lnk else
      s.lnk.posted s.uptime [(.cableState, false, .circuit c, cableFields (cableAt s c) (cableState s c))] } := by
  have hreported : (if cableState s c = was then s else cableReport c s) = { s with
      lnk := if cableState s c = was then s.lnk else
        s.lnk.posted s.uptime [(.cableState, false, .circuit c, cableFields (cableAt s c) (cableState s c))] } := by
    rw [cableReport_eq]
    split <;> rfl
  rw [cableStateAfter, hreported]
  by_cases hsuspect : cableState s c = .suspect
  · simp only [hsuspect, decide_true, Bool.or_true, if_true]
    rfl
  · simp only [hsuspect, decide_false, Bool.or_false, if_false]
    rw [Tab.modify_eq_self _ _ rfl]

/-- R147: the cable state the completed section shows. -/
def completedState (w : Test) (leak : Nat) (s : State) : CableState :=
  if s.jds.fitted w.circuit then (completedCable w leak s).state else .untested

/-- The section of the test's circuit with the retest judged. -/
def judgedCable (w : Test) (leak : Nat) (s : State) : Cable :=
  { completedCable w leak s with retestDue := decide (completedState w leak s = .suspect) }

/-- R148: the test is over and its release commanded, so that FLT's events find CBL idle. -/
theorem drained_cbl (w : Test) (m : InjMode) (leak : Nat) (s : State) :
    (drain eventFuel (testCompleted w m leak s)).cbl = (testCompleted w m leak s).cbl :=
  drain_leavesIdle _ _ ⟨rfl, fun _ _ => InjPos.noConfusion⟩

theorem drained_cableAt (w : Test) (m : InjMode) (leak : Nat) (s : State) :
    cableAt (drain eventFuel (testCompleted w m leak s)) w.circuit = completedCable w leak s := by
  rw [cableAt, drained_cbl]
  exact Tab.get_set_same ..

theorem drained_jds (w : Test) (m : InjMode) (leak : Nat) (s : State) :
    (drain eventFuel (testCompleted w m leak s)).jds = s.jds := by
  obtain ⟨-, hjds, -⟩ := (drain_responds eventFuel (testCompleted w m leak s)).frame
  exact hjds

theorem drained_cableState (w : Test) (m : InjMode) (leak : Nat) (s : State) :
    cableState (drain eventFuel (testCompleted w m leak s)) w.circuit = completedState w leak s := by
  rw [cableState, drained_jds, drained_cableAt]
  rfl

/-- R153, R158: what a completion leaves of every block, FLT's answers apart. -/
theorem completeTest_after (hpos : s.cbl.pos = .on w.circuit m) (leak : Nat) : completeTest w leak s = {
    drain eventFuel (testCompleted w m leak s) with
    cbl := { s.cbl with
      cable := s.cbl.cable.set w.circuit (judgedCable w leak s)
      pos := .releasing w.circuit m true, release := some ⟨0, 100⟩, test := none }
    lnk := if completedState w leak s = cableState s w.circuit then
        (drain eventFuel (testCompleted w m leak s)).lnk
      else (post .cableState false (.circuit w.circuit)
        (cableFields (completedCable w leak s) (completedState w leak s))
        (drain eventFuel (testCompleted w m leak s))).lnk } := by
  rw [completeTest_eq hpos, cableStateAfter_eq, drained_cableState, drained_cableAt, drained_cbl, post_eq]
  have hcable : ((testCompleted w m leak s).cbl.cable.modify w.circuit fun x => { x with
      retestDue := x.retestDue || decide (completedState w leak s = .suspect) }) =
      s.cbl.cable.set w.circuit (judgedCable w leak s) :=
    Tab.modify_modify s.cbl.cable w.circuit (fun _ => completedCable w leak s) _
  rw [hcable]
  rfl

theorem completeTest_inbox (hpos : s.cbl.pos = .on w.circuit m) (leak : Nat) :
    (completeTest w leak s).flt.inbox = [] := by
  rw [completeTest_after hpos]
  exact drain_inbox ..

/-- What stands at the end of the conversion. -/
theorem afterDelivery_completed (v : Conv) (hpos : s.cbl.pos = .on w.circuit m) (leak : Nat) :
    (finish (afterDelivery v (completeTest w leak s))).cbl.cable =
      s.cbl.cable.set w.circuit (judgedCable w leak s) ∧
    (finish (afterDelivery v (completeTest w leak s))).cbl.pos = .releasing w.circuit m true ∧
    (finish (afterDelivery v (completeTest w leak s))).cbl.release = some ⟨0, 100⟩ ∧
    (finish (afterDelivery v (completeTest w leak s))).jds = s.jds := by
  have hplaces := afterDelivery_places v (completeTest_inbox hpos leak)
  obtain ⟨hjds, -⟩ := hplaces.frame
  have hcbl := hplaces.cbl_eq
  have hcompleted : (completeTest w leak s).jds = s.jds := by
    rw [completeTest_after hpos]
    exact drained_jds ..
  rw [hcompleted] at hjds
  generalize afterDelivery v (completeTest w leak s) = t at *
  rw [completeTest_after hpos] at hcbl
  have hcable : t.cbl.cable = s.cbl.cable.set w.circuit (judgedCable w leak s) := by rw [hcbl]
  have hposition : t.cbl.pos = .releasing w.circuit m true := by rw [hcbl]
  have hrelease : t.cbl.release = some ⟨0, 100⟩ := by rw [hcbl]
  exact ⟨hcable, hposition, hrelease, hjds⟩

/-- R156: which completion teaches the baseline. -/
theorem completedCable_baseline (w : Test) (leak : Nat) (s : State) {p : Nat → Prop}
    (hp : ∀ l, p l ↔ w.loop = some l ∧ (s.cbl.cable.get w.circuit).baseline = 0 ∧ 1 ≤ l ∧ l ≤ 4094 ∧
      ¬(s.jds.timing.foreignOpen < w.vo ∧ ∃ v, w.vl = some v ∧ s.jds.timing.foreignLoaded < v) ∧
      ¬(s.jds.circuit.get w.circuit).leakLimit < leak) :
    (∀ l, p l → (completedCable w leak s).baseline = l) ∧
    ((∀ l, ¬p l) → (completedCable w leak s).baseline = (s.cbl.cable.get w.circuit).baseline) := by
  have hlearns : learnsBaseline (s.cbl.cable.get w.circuit).baseline w.loop (showsForeign s w.vo w.vl)
      (decide ((s.jds.circuit.get w.circuit).leakLimit < leak)) = true ↔ ∃ l, p l := by
    simp only [learnsBaseline_iff, hp, Bool.eq_false_iff, ne_eq, showsForeign_iff, decide_eq_true_eq]
  refine ⟨fun l hl => (if_pos (hlearns.mpr ⟨l, hl⟩)).trans ?_, fun hnone => if_neg fun h => ?_⟩
  · obtain ⟨hloop, -⟩ := (hp l).mp hl
    rw [hloop]
    rfl
  · obtain ⟨l, hl⟩ := hlearns.mp h
    exact hnone l hl

theorem testResult_of_leak (h : w.step = .leak) (r : Nat) (s : State) : testResult w r s = completeTest w r s := by
  simp only [testResult, h]

end Sys2Proof.Machine

namespace Sys2Proof.Proofs

open Sys2Proof Sys2Proof.Machine

/-- Settles O57: the completion is `completeTest_after`, whose section `judgedCable` stands to the command's end
(`afterDelivery_completed`); the judgement, cause by cause, is `CauseRun.move_moves`. -/
theorem leakReadingCompletesTest : Obligations.LeakReadingCompletesTest := by
  unfold Obligations.LeakReadingCompletesTest
  intro v q w m input s hconv hdue hslot hw hstep hplaced hchannel hcount hpos r tm x b j foreign insulation teaches
  have hdelivered : delivered v q r s = completeTest w r (freed v s) :=
    (delivered_of_awaited v hw hplaced (by rw [Test.channel, hstep, hchannel]) hcount r).trans
      (testResult_of_leak hstep r _)
  have hexec := conversionComplete_of_due input hconv hdue hslot
  have hafter := completeTest_after (s := freed v s) hpos r
  obtain ⟨hcable, hposition, hrelease, hjds⟩ := afterDelivery_completed (s := freed v s) v hpos r
  refine ⟨finish (afterDelivery v (delivered v q r s)), hexec, ?_⟩
  rw [hdelivered]
  generalize ht : finish (afterDelivery v (completeTest w r (freed v s))) = t at *
  intro y
  have hy : y = judgedCable w r (freed v s) := (congrArg (Tab.get · w.circuit) hcable).trans (Tab.get_set_same ..)
  have hstate : cableState t w.circuit = completedState w r (freed v s) := by
    rw [cableState, hjds, cableAt, hcable, Tab.get_set_same]
    rfl
  clear_value y
  subst hy
  rw [hstate]
  have hforeign := showsForeign_iff (s := freed v s) (n := w.vo) (l := w.vl)
  obtain ⟨hlearned, hkept⟩ := completedCable_baseline w r (freed v s) (p := teaches) fun _ => Iff.rfl
  refine ⟨rfl, rfl, rfl, rfl, rfl, rfl, rfl, decide_eq_true_iff, hposition, hrelease,
    CauseRun.move_moves showsOpen_iff _, CauseRun.move_moves showsShort_iff _,
    CauseRun.move_moves decide_eq_true_iff _, CauseRun.move_moves hforeign _,
    showsInduced_iff (s := freed v s), hlearned, hkept, rfl, hjds, fun hfitted => ?suspect,
    testCompleted w m r (freed v s), completeTest w r (freed v s), ht.symm, ?events, rfl, rfl, rfl, rfl, ?blocks⟩
  case suspect =>
    rw [show completedState w r (freed v s) = _ from if_pos hfitted]
    exact Cable.state_suspect_iff (Option.some_ne_none _)
  case events =>
    simp only [testCompleted, causeEvents, ← List.append_assoc]
    rfl
  case blocks =>
    intro after
    rw [hafter]
    exact ⟨rfl, rfl, rfl, rfl⟩

end Sys2Proof.Proofs
end
